-- ==== Sys2Proof/Word.lean ====
section
/-! DEFINITION. The word of the Exchange RAM and of the register window, and the time stamp's range
(spec 00_scope.md: "Each word is 16 bits", R1 "Time stamp: ms since power-on, 32-bit, wrapping"). -/

namespace Sys2Proof

/-- One word of the Exchange RAM or of the register window: 16 bits. -/
abbrev Word := BitVec 16

/-- One word of the Exchange RAM at its word offset. The manual's smallest addressable unit is the word
(00_scope.md, "Exchange RAM addresses are word offsets"), so a cell holds a word, not a byte. -/
abbrev RamCell := Nat × Word

/-- R1: a time stamp counts milliseconds modulo 2³². -/
def stampRange : Nat := 4294967296

/-- 00_scope.md: the Exchange RAM has 16,384 words. -/
def ramWords : Nat := 16384

end Sys2Proof
end

