-- ==== Sys2Proof/Syntax.lean ====
section
/-! DEFINITION. The commands of the D7: one constructor per row of spec/opcode_table.json, with the operands that
the command brings from outside. The rows give no bits; the operands are read from each row's rule (assumption log 2). -/

namespace Sys2Proof

/-- The four speed inputs SPD0 to SPD3 (R158). -/
inductive Channel where
  | frontL | frontR | rearL | rearR
  deriving DecidableEq, Repr

/-- One character as the receiver takes it (R126): eight data bits and the four flags. -/
structure RxChar where
  data : BitVec 8
  noise : Bool
  framing : Bool
  parity : Bool
  mark : Bool
  deriving DecidableEq, Repr

/-- R126: one character as it stands on the line: its data bits, its mark bit, its parity bit, its stop bit (true: high),
whether the samples taken within some bit of it disagreed, and whether the line had been high for one bit-time before its
start bit. The receiver's four flags are formed from these. -/
structure LineChar where
  data : BitVec 8
  mark : Bool
  parityBit : Bool
  stopBit : Bool
  noise : Bool
  afterHigh : Bool
  deriving DecidableEq, Repr

/-- R152: one conversion as the converter finds it: the voltages on AIN0 to AIN15, in microvolts (assumption log 45). -/
abbrev Conversion := Vector Int 16

/-- The commands, in the table's order. `slot` is the Order Board slot (R189, 16 slots) that holds the order. -/
inductive Instr where
  /-- POWER_ON_RESET (R5): the reset at supply rise. -/
  | powerOnReset
  /-- BOARD_RESET (R5): the RESETN input. -/
  | boardReset
  /-- SOFT_RESTART (R186): a bus write of 0x0001 to RUNCTL. -/
  | softRestart
  /-- ATTN_WRITE (R187): a bus write of `value` to ATTN. -/
  | attnWrite (value : Word)
  /-- ATTNEN_WRITE (R185): a bus write of `value` to ATTNEN. -/
  | attnenWrite (value : Word)
  /-- REGISTER_WRITE_IGNORED (R184): a bus write of `value` at window offset `offset` (A0 to A2). -/
  | registerWriteIgnored (offset : BitVec 3) (value : Word)
  /-- SLATE_PICK_UP (R188). -/
  | slatePickUp
  /-- BOARD_SWEEP (R189). -/
  | boardSweep
  /-- APPLY_SETTINGS (R191): the order in `slot` is taken and handed to the Order Desk. -/
  | applySettings (slot : Fin 16)
  /-- APPLY_SETTINGS_COMPLETION (R191): the first scan-pass event reaches the Order Desk. -/
  | applySettingsCompletion
  /-- ARM_DRIVE (R7). -/
  | armDrive (slot : Fin 16)
  /-- DISARM_DRIVE (R8). -/
  | disarmDrive (slot : Fin 16)
  /-- CLEAR_FALLBACK (R170). -/
  | clearFallback (slot : Fin 16)
  /-- CLEAR_FAULT (R195). -/
  | clearFault (slot : Fin 16)
  /-- RESET_LOCKOUT (R51). -/
  | resetLockout (slot : Fin 16)
  /-- START_SELF_LOAD (R174). -/
  | startSelfLoad (slot : Fin 16)
  /-- STOP_SELF_LOAD (R182). -/
  | stopSelfLoad (slot : Fin 16)
  /-- TARE_LOAD (R109). -/
  | tareLoad (slot : Fin 16)
  /-- TARE_LOAD_COMPLETION (R110): the sixteenth good stationary scan pass reaches the Load Monitor. -/
  | tareLoadCompletion
  /-- GOVERNOR_FRAME (R22). -/
  | governorFrame
  /-- DC_LINK_FRAME (R45). -/
  | dcLinkFrame
  /-- THERMAL_FRAME (R45). -/
  | thermalFrame
  /-- STEERING_FRAME (R87). -/
  | steeringFrame
  /-- STROBE (R152): the strobe timer expires. -/
  | strobe
  /-- STROBE_COMPLETION (R153): the last conversion is taken; `codes` are the converter's codes, first first. -/
  | strobeCompletion (conversions : List Conversion)
  /-- SPEED_EDGE (R158): a rising edge on the channel's input, now. -/
  | speedEdge (channel : Channel)
  /-- SILENCE_EVENT (R159): the channel's silence timer expires. -/
  | silenceEvent (channel : Channel)
  /-- LONG_WINDOW_EXPIRY (R165). -/
  | longWindowExpiry
  /-- W_MIN_EXPIRY (R165). -/
  | wMinExpiry
  /-- W_MAX_EXPIRY (R165). -/
  | wMaxExpiry
  /-- FALLBACK_DECAY_STEP (R168). -/
  | fallbackDecayStep
  /-- EXCHANGE_START (R130): the line has been idle for 2 character-times. -/
  | exchangeStart
  /-- ECHO_CHECK (R140): the end of the character being sent. -/
  | echoCheck
  /-- REPLY_TIMER_EXPIRY (R131). -/
  | replyTimerExpiry
  /-- CHARACTER_RECEIVED (R132): the receiver takes `char` off the line. -/
  | characterReceived (char : LineChar)
  /-- ASSEMBLER_DRAIN (R133). -/
  | assemblerDrain
  /-- FRAME_END (R134): 2 character-times of idle after the last character of the window. -/
  | frameEnd
  /-- MUTE_END (R135): 2 character-times of idle while the receiver is muted. -/
  | muteEnd
  /-- LINE_STUCK_DETECTED (R143): the line has been low for 300 µs. -/
  | lineStuckDetected
  /-- LINE_STUCK_CLEARED (R143): the line has been high for 2 character-times. -/
  | lineStuckCleared
  /-- HALT_START (R144): no character is on the line. -/
  | haltStart
  /-- HALT_END (R145): the HALT's driven idle ends. -/
  | haltEnd
  /-- PHASE_END (R175): the phase timer expires. -/
  | phaseEnd
  /-- STEP_END (R176): the body step in progress ends. -/
  | stepEnd
  /-- ASSEMBLER_HOLD_END (R133): the hand-over of the completed reply has finished. -/
  | assemblerHoldEnd
  deriving DecidableEq, Repr

end Sys2Proof
end

