-- ==== Sys2Proof/Machine/State.lean ====
section
/-! DEFINITION. The state of the D7: every piece of state the manual gives the part, as plain data, and the state after a
power-on reset. Each field's docstring cites the rule that names it. Times in time stamps are milliseconds (R1); timer
deadlines are microseconds since power-on. -/

namespace Sys2Proof.Machine

/-! ## Names the manual fixes -/

/-- R4: the Drive Mode, in the order of R193's codes. -/
inductive Mode where
  | unconfigured | disarmed | armed | fallback | selfLoad | tripped
  deriving DecidableEq, Repr

/-- R188: the slate's Direction, and R25's held direction. -/
inductive Direction where
  | neutral | forward | reverse
  deriving DecidableEq, Repr

/-- R25: the travel sense. -/
inductive TravelSense where
  | forward | reverse
  deriving DecidableEq, Repr

/-- The two grid banks. -/
inductive BankId where
  | a | b
  deriving DecidableEq, Repr

/-- The two rear wheels. -/
inductive Wheel where
  | left | right
  deriving DecidableEq, Repr

/-- The four stations of the Wheel Link (00_scope.md): 1 and 2 the traction inverters, 3 the grid chopper module,
4 the steering valve module. -/
inductive StationId where
  | inverterL | inverterR | chopper | valve
  deriving DecidableEq, Repr

/-- R150: the fourteen roles, in role-number order. -/
inductive Role where
  | dcLinkVoltage | bankACurrent | bankBCurrent | bankAAir
  | bankBAir | ambient | strutFL | strutFR
  | strutRL | strutRR | steerSupply | accumulator
  | roadWheelAngle | handwheelAngle
  deriving DecidableEq, Repr

/-- R14 and 1.5: the seventeen rows of the Limit Table, in row-number order. -/
inductive RowId where
  | speedCeiling | zoneSpeed | descentSpeed
  | curveSpeed | steerReserveSpeed | loadClassSpeed
  | fallbackSpeed | propelCeiling | loadClassPropel
  | motorPropelLeft | motorPropelRight | linkUndervoltagePropel
  | retardCeiling | gridCapacity | motorRetardLeft
  | motorRetardRight | linkOvervoltageRetard
  deriving DecidableEq, Repr

/-- R194: the forty-three fault codes, in code order. -/
inductive FaultCode where
  | station1Lost | station2Lost | station3Lost | station4Lost
  | linkEcho | lineStuck | dcLinkOvervoltage | dcLinkUndervoltage
  | inverterLFault | inverterRFault | speedMismatchL | speedMismatchR
  | speedSensorFrontL | speedSensorFrontR | referenceDegraded | retardInsufficient
  | bankATrip | bankBTrip | bankALockout | bankBLockout
  | bankACircuit | bankBCircuit | bankAAirOvertemp | bankBAirOvertemp
  | blowerAFault | blowerBFault | steerSupplyLow | steerTracking
  | steerFeedbackInvalid | valveFault | steerAccumulatorLow | overloadClass1
  | overloadClass2 | strutSensorInvalid | motorLOverloadHeld | motorROverloadHeld
  | motorLOvertemp | motorROvertemp | supervisionEarly | supervisionLate
  | fallbackLatched | scanRoleRange | traceOverrun
  deriving DecidableEq, Repr

/-- The place of a role in the Sample Table: its role number less one (R150). -/
def Role.index : Role → Fin 14
  | .dcLinkVoltage => 0
  | .bankACurrent => 1
  | .bankBCurrent => 2
  | .bankAAir => 3
  | .bankBAir => 4
  | .ambient => 5
  | .strutFL => 6
  | .strutFR => 7
  | .strutRL => 8
  | .strutRR => 9
  | .steerSupply => 10
  | .accumulator => 11
  | .roadWheelAngle => 12
  | .handwheelAngle => 13

/-- The place of a row in the Limit Table: its row number less one (1.5). -/
def RowId.index : RowId → Fin 17
  | .speedCeiling => 0
  | .zoneSpeed => 1
  | .descentSpeed => 2
  | .curveSpeed => 3
  | .steerReserveSpeed => 4
  | .loadClassSpeed => 5
  | .fallbackSpeed => 6
  | .propelCeiling => 7
  | .loadClassPropel => 8
  | .motorPropelLeft => 9
  | .motorPropelRight => 10
  | .linkUndervoltagePropel => 11
  | .retardCeiling => 12
  | .gridCapacity => 13
  | .motorRetardLeft => 14
  | .motorRetardRight => 15
  | .linkOvervoltageRetard => 16

/-- The place of a record in the Fault Table: its code less one (R194). -/
def FaultCode.index : FaultCode → Fin 43
  | .station1Lost => 0
  | .station2Lost => 1
  | .station3Lost => 2
  | .station4Lost => 3
  | .linkEcho => 4
  | .lineStuck => 5
  | .dcLinkOvervoltage => 6
  | .dcLinkUndervoltage => 7
  | .inverterLFault => 8
  | .inverterRFault => 9
  | .speedMismatchL => 10
  | .speedMismatchR => 11
  | .speedSensorFrontL => 12
  | .speedSensorFrontR => 13
  | .referenceDegraded => 14
  | .retardInsufficient => 15
  | .bankATrip => 16
  | .bankBTrip => 17
  | .bankALockout => 18
  | .bankBLockout => 19
  | .bankACircuit => 20
  | .bankBCircuit => 21
  | .bankAAirOvertemp => 22
  | .bankBAirOvertemp => 23
  | .blowerAFault => 24
  | .blowerBFault => 25
  | .steerSupplyLow => 26
  | .steerTracking => 27
  | .steerFeedbackInvalid => 28
  | .valveFault => 29
  | .steerAccumulatorLow => 30
  | .overloadClass1 => 31
  | .overloadClass2 => 32
  | .strutSensorInvalid => 33
  | .motorLOverloadHeld => 34
  | .motorROverloadHeld => 35
  | .motorLOvertemp => 36
  | .motorROvertemp => 37
  | .supervisionEarly => 38
  | .supervisionLate => 39
  | .fallbackLatched => 40
  | .scanRoleRange => 41
  | .traceOverrun => 42

/-- The place of a station's record: its number less one. -/
def StationId.index : StationId → Fin 4
  | .inverterL => 0
  | .inverterR => 1
  | .chopper => 2
  | .valve => 3

end Sys2Proof.Machine

namespace Sys2Proof

/-- The place of a channel's record, in the order of R158. -/
def Channel.index : Channel → Fin 4
  | .frontL => 0
  | .frontR => 1
  | .rearL => 2
  | .rearR => 3

end Sys2Proof

namespace Sys2Proof.Machine

/-- Every role, in role-number order. -/
def Role.all : List Role :=
  [.dcLinkVoltage, .bankACurrent, .bankBCurrent, .bankAAir, .bankBAir,
   .ambient, .strutFL, .strutFR, .strutRL, .strutRR,
   .steerSupply, .accumulator, .roadWheelAngle, .handwheelAngle]

/-- Every row, in row-number order. -/
def RowId.all : List RowId :=
  [.speedCeiling, .zoneSpeed, .descentSpeed, .curveSpeed, .steerReserveSpeed,
   .loadClassSpeed, .fallbackSpeed, .propelCeiling, .loadClassPropel, .motorPropelLeft,
   .motorPropelRight, .linkUndervoltagePropel, .retardCeiling, .gridCapacity, .motorRetardLeft,
   .motorRetardRight, .linkOvervoltageRetard]

/-- Every fault code, in code order. -/
def FaultCode.all : List FaultCode :=
  [.station1Lost, .station2Lost, .station3Lost, .station4Lost, .linkEcho,
   .lineStuck, .dcLinkOvervoltage, .dcLinkUndervoltage, .inverterLFault, .inverterRFault,
   .speedMismatchL, .speedMismatchR, .speedSensorFrontL, .speedSensorFrontR, .referenceDegraded,
   .retardInsufficient, .bankATrip, .bankBTrip, .bankALockout, .bankBLockout,
   .bankACircuit, .bankBCircuit, .bankAAirOvertemp, .bankBAirOvertemp, .blowerAFault,
   .blowerBFault, .steerSupplyLow, .steerTracking, .steerFeedbackInvalid, .valveFault,
   .steerAccumulatorLow, .overloadClass1, .overloadClass2, .strutSensorInvalid, .motorLOverloadHeld,
   .motorROverloadHeld, .motorLOvertemp, .motorROvertemp, .supervisionEarly, .supervisionLate,
   .fallbackLatched, .scanRoleRange, .traceOverrun]
/-! ## Why a step can stop -/

/-- The faults of the part. The manual gives every command an effect or says that it changes nothing, and the Exchange RAM
has a word at every address the bus can name, so no command of the model stops with a fault. -/
inductive Fault where
  deriving DecidableEq, Repr

/-- The refusals. -/
inductive Refusal where
  /-- Raised by `exec` alone, for a command without a meaning yet (none is left). Safe: the model stops. -/
  | notModelled (mnemonic : String)
  deriving DecidableEq, Repr

/-! ## Settings (R191's groups; the ranges stand in Machine/Settings.lean) -/

/-- R16: the ceilings. -/
structure CeilingSettings where
  forwardSpeed : Int
  reverseSpeed : Int
  propel : Int
  retard : Int
  deriving DecidableEq, Repr

/-- R43: the governing settings. Frame Period in ms. -/
structure GoverningSettings where
  framePeriod : Nat
  kp : Int
  ki : Int
  slipThreshold : Int
  cMin : Int
  cutStep : Int
  recoverStep : Int
  ramp : Int
  deriving DecidableEq, Repr

/-- R71: the settings of one bank. -/
structure BankSettings where
  enabled : Bool
  ratedPower : Int
  resistance : Int
  warnTheta : Int
  tripTheta : Int
  restartTheta : Int
  airTrip : Int
  heatingGain : Int
  coolingGain : Int
  noBlower : Int
  deriving DecidableEq, Repr

/-- R71: the grid settings, both banks' and the shared ones. Lockout Window in s, Blower Start Time and OV Persist in ms. -/
structure GridSettings where
  bankA : BankSettings
  bankB : BankSettings
  altitudeCooling : Int
  lockoutWindow : Nat
  startTemperature : Int
  blowerOffTheta : Int
  blowerStartTime : Nat
  inverterRetardMax : Int
  ratedRimForce : Int
  vRef : Int
  vOv : Int
  ovHysteresis : Int
  ovPersist : Nat
  ovLatch : Bool
  vUv : Int
  vMin : Int
  kv : Int
  retardOvCap : Int
  deriving DecidableEq, Repr

/-- R81: the descent settings. -/
structure DescentSettings where
  rollingResistance : Int
  descentMargin : Int
  overspeedMargin : Int
  deriving DecidableEq, Repr

/-- A breakpoint of an interpolation table: coordinate, then value (R191). -/
structure Breakpoint where
  x : Int
  y : Int
  deriving DecidableEq, Repr

/-- R105: Demand Source. -/
inductive DemandSource where
  | slate | handwheel
  deriving DecidableEq, Repr

/-- R105: the steering settings. -/
structure SteerSettings where
  demandSource : DemandSource
  handwheelRatio : Int
  maxLock : Int
  maxAngleTable : List Breakpoint
  rateTable : List Breakpoint
  reserveRate : Int
  ks : Int
  trackErrorLimit : Int
  trackGain : Int
  emptyCurve : List Breakpoint
  loadedCurve : List Breakpoint
  supplyLow : Int
  supplyRecover : Int
  accumulatorMin : Int
  pressurePerStroke : Int
  deriving DecidableEq, Repr

/-- R125: the Load Monitor's settings. -/
structure LoadSettings where
  emptyMass : Int
  ratedPayload : Int
  areaFL : Int
  areaFR : Int
  areaRL : Int
  areaRR : Int
  emptyBand : Int
  class1Threshold : Int
  class2Threshold : Int
  class1Speed : Int
  class2Speed : Int
  class2PropelCap : Int
  continuousRating : Int
  peakSeconds : Int
  motorWarn : Int
  motorRetardWarn : Int
  motorTrip : Int
  deriving DecidableEq, Repr

/-- R149: the link settings. The Poll List holds its first Poll Count entries. Reply Timer in µs. -/
structure LinkSettings where
  pollList : List StationId
  replyTimer : Nat
  speedPerRpm : Int
  deriving DecidableEq, Repr

/-- R161: the period constants K of the four channels. -/
structure SpeedSettings where
  kFrontL : Nat
  kFrontR : Nat
  kRearL : Nat
  kRearR : Nat
  deriving DecidableEq, Repr

/-- R171: the supervision settings, lengths in ms. -/
structure SupervisionSettings where
  longWindow : Nat
  wMin : Nat
  wMax : Nat
  fallbackDecel : Int
  deriving DecidableEq, Repr

/-- R152: one Scan List entry. -/
structure ScanEntry where
  input : Nat
  range : Nat
  role : Role
  averaging : Nat
  offset : Int
  scale : Int
  deriving DecidableEq, Repr

/-- R157: a role's limits. -/
structure RoleLimits where
  low : Int
  high : Int
  deriving DecidableEq, Repr

/-- R157: the scan settings. Strobe Period in µs; the Scan List holds its first Scan Count entries; limits in role order. -/
structure ScanSettings where
  strobePeriod : Nat
  entries : List ScanEntry
  limits : List RoleLimits
  deriving DecidableEq, Repr

/-- R191, R196: the trace settings. The selections are the first Trace Count ones. -/
structure TraceSettings where
  enable : Bool
  divider : Nat
  selections : List Nat
  deriving DecidableEq, Repr

/-- R191: one whole set of settings. -/
structure Settings where
  ceilings : CeilingSettings
  governing : GoverningSettings
  grids : GridSettings
  descent : DescentSettings
  steer : SteerSettings
  load : LoadSettings
  link : LinkSettings
  speed : SpeedSettings
  supervision : SupervisionSettings
  scan : ScanSettings
  levels : List Int
  trace : TraceSettings
  deriving DecidableEq, Repr

/-! ## Exchange Unit and Order Desk -/

/-- R184, R185: the register window's writable words. IDENT0, IDENT1 and offsets 5 to 7 hold no state. -/
structure Window where
  runctl : Word
  attn : Word
  attnen : Word
  deriving DecidableEq, Repr

/-- R188: the Accepted Slate. -/
structure Slate where
  heartbeat : Nat
  direction : Direction
  propel : Int
  retard : Int
  speedHold : Int
  zoneSpeed : Int
  grade : Int
  steering : Int
  parkApplied : Bool
  bodyRaised : Bool
  deriving DecidableEq, Repr

/-- The Exchange Unit's own state beside the RAM, the window and the Fault Table (R188). -/
structure Exchange where
  slate : Slate
  lastStamp : Option Word
  torn : Nat
  deriving DecidableEq, Repr

/-- R190: the Order Desk's record of an order it has taken: the slot, and the copy of the slot's words 1 to 8. -/
structure HeldOrder where
  slot : Fin 16
  words : List Word
  deriving DecidableEq, Repr

/-- R189, R190: the orders that stay TAKEN. The three owners whose orders take time hold at most one each. -/
structure OrderDesk where
  apply : Option HeldOrder
  start : Option HeldOrder
  tare : Option HeldOrder
  deriving DecidableEq, Repr

/-- R194: one record of the Fault Table, as the Exchange Unit keeps it. -/
structure FaultRecord where
  active : Bool
  latched : Bool
  count : Nat
  firstTime : Nat
  lastTime : Nat
  detail : Nat
  deriving DecidableEq, Repr

/-- R15: one row of the Limit Table: its two written fields and its history. Row, Quantity, Scope and Owner are fixed
by the row's name (1.5). -/
structure LimitRow where
  active : Bool
  value : Int
  since : Nat
  changes : Nat
  deriving DecidableEq, Repr

/-! ## Drive Governor -/

/-- R18: the five effective limits and their binding rows (0 for none). -/
structure Limits where
  ls : Int
  lsRow : Nat
  pl : Int
  plRow : Nat
  pr : Int
  prRow : Nat
  rl : Int
  rlRow : Nat
  rr : Int
  rrRow : Nat
  deriving DecidableEq, Repr

/-- The Drive Governor's state: the Drive Mode record (R4), the direction (R25), the frame state (R37, R44), the limits of
the last frame (R18, R19, R168), Over Since (R82) and the page stamp (R192). -/
structure Drive where
  mode : Mode
  since : Nat
  tripCause : Option FaultCode
  held : Direction
  travel : TravelSense
  integrator : Int
  corrL : Int
  corrR : Int
  qL : Int
  qR : Int
  gate : Bool
  limits : Limits
  overSince : Option Nat
  pageStamp : Word
  deriving DecidableEq, Repr

/-! ## Grid Manager -/

/-- R46: a bank's Stage. -/
inductive Stage where
  | ready | derated | tripped | lockedOut | offline
  deriving DecidableEq, Repr

/-- R49: the bank trip causes, numbered 1 to 4 by R52. -/
inductive BankTrip where
  | theta | air | circuit | chopper
  deriving DecidableEq, Repr

/-- R46: one bank record. `startDue` is the model's own: an APPLY SETTINGS has completed while Model Running was clear, so
the next thermal frame starts the model (R56). -/
structure Bank where
  stage : Stage
  theta : Int
  modelRunning : Bool
  duty : Int
  meanDuty : Int
  meanPower : Int
  derate : Int
  tripHistory : List Nat
  lastTripCause : Option BankTrip
  circuitFailed : Bool
  airOver : Bool
  blowerDemand : Bool
  blowerRunning : Bool
  blowerSince : Nat
  startDue : Bool
  deriving DecidableEq, Repr

/-- R53: the sample sums of the thermal frame in progress, the roles found invalid in it and its DC-link frames. -/
structure GridSums where
  v : Int
  iA : Int
  iB : Int
  dutyA : Int
  dutyB : Int
  vInvalid : Bool
  iAInvalid : Bool
  iBInvalid : Bool
  frames : Nat
  deriving DecidableEq, Repr

/-- R74, R79: the descent record's Condition. -/
inductive DescentCondition where
  | notDriving | notDownhill | noPower | active | ceiling
  deriving DecidableEq, Repr

/-- R74: the descent record. -/
structure Descent where
  condition : DescentCondition
  gradeUsed : Int
  effectiveGrade : Int
  grossMassUsed : Int
  powerUsed : Int
  value : Int
  deriving DecidableEq, Repr

/-- R46, R67, R74: the Grid Manager's state. `ovReported`: DC LINK OVERVOLTAGE has been reported in this HIGH episode (R68).
`ovRecheck`: the first DC-link frame with V VALID after a reset is still to come (R68). `ovHeld`: row 17 is held until the record
is cleared, by an episode that reached OV Persist with OV Latch YES or by the restoring after a reset (R68). `reportAnew`: the first thermal frame
after a reset is still to come (R47). `grossMass`: the last gross mass given, none since the reset (R76). -/
structure Grid where
  bankA : Bank
  bankB : Bank
  dutyTotal : Int
  v : Int
  ovHigh : Bool
  ovEntry : Nat
  ovReported : Bool
  ovRecheck : Bool
  ovHeld : Bool
  pAvail : Int
  sums : GridSums
  lastMeanV : Int
  grossMass : Option Int
  descent : Descent
  reportAnew : Bool
  deriving DecidableEq, Repr

/-! ## Steering Servo -/

/-- R85: the servo's State. -/
inductive SteerState where
  | off | normal | reserve | failed
  deriving DecidableEq, Repr

/-- R85: Source In Use. -/
inductive SteerSource where
  | slate | handwheel | held
  deriving DecidableEq, Repr

/-- R85: the servo record, with what R104 publishes beside it. `first`: the next frame is the first after a restart (R86).
`awaitPass`: the frame timer waits for the first scan pass (R86). `rowFor`: the State row 5 was last written for (R103).
`given`: payload used and Rated Payload as the Load Monitor last gave them (R102, R117). -/
structure Steer where
  state : SteerState
  failCause : Option FaultCode
  source : SteerSource
  sourceDemand : Int
  maxAngle : Int
  limitedDemand : Int
  step : Int
  target : Int
  measured : Int
  flow : Int
  trackSince : Option Nat
  supplyLow : Bool
  lowSince : Option Nat
  recoverSince : Option Nat
  reserveStrokes : Int
  kL : Int
  kR : Int
  curveAngle : Int
  fraction : Int
  ce : Int
  cl : Int
  supplyRead : Int
  accumulatorRead : Int
  first : Bool
  awaitPass : Bool
  rowFor : Option SteerState
  given : Option (Int × Int)
  deriving DecidableEq, Repr

/-! ## Load Monitor -/

/-- R106: Cycle State. -/
inductive Cycle where
  | empty | loading | hauling | dumping
  deriving DecidableEq, Repr

/-- R106: Band Side. -/
inductive BandSide where
  | below | atOrAbove
  deriving DecidableEq, Repr

/-- R118: Load Class. -/
inductive LoadClass where
  | normal | class1 | class2
  deriving DecidableEq, Repr

/-- R106, R120 to R122: one wheel's motor record. -/
structure Motor where
  budget : Int
  held : Bool
  lastReply : Option Nat
  winding : Option Int
  propelCap : Int
  retardCap : Int
  deriving DecidableEq, Repr

/-- R106: the Load Monitor record. `band`: Band Since with Band Side. `tareProgress`: samples taken and their sum.
`ratio`: r of R118. The four pressures are the ones last read (R124). `acting`: the monitor acts at scan passes (R107).
`afterReset`, `afterApply`: the next pass is the first after a reset, after an APPLY SETTINGS restart (R107, R125). -/
structure Load where
  cycle : Cycle
  sprungMass : Int
  livePayload : Int
  tare : Int
  tareSet : Bool
  emptyConfirmed : Bool
  weighBuffer : List Int
  band : Option (Nat × BandSide)
  moveSince : Option Nat
  latchedPayload : Int
  latchedUnweighed : Bool
  payloadUsed : Int
  unweighed : Bool
  ratio : Int
  loadClass : LoadClass
  cycleCount : Nat
  tareProgress : Option (Nat × Int)
  pressFL : Int
  pressFR : Int
  pressRL : Int
  pressRR : Int
  motorL : Motor
  motorR : Motor
  acting : Bool
  afterReset : Bool
  afterApply : Bool
  deriving DecidableEq, Repr

/-! ## Wheel Link Master -/

/-- R128: a station's State. -/
inductive StationState where
  | absent | present | lost
  deriving DecidableEq, Repr

/-- R136: the reasons of a bad or missing reply, coded 1 to 10. -/
inductive Reason where
  | missing | stray | noHeader | overrun | character | mark | length | kind | check | counter
  deriving DecidableEq, Repr

/-- R38: the torque fields of the outgoing record of station 1 or 2. -/
structure TorqueRecord where
  torque : Int
  enable : Bool
  reverse : Bool
  deriving DecidableEq, Repr

/-- R66: station 3's outgoing record. -/
structure ChopperRecord where
  dutyA : Int
  dutyB : Int
  blowerA : Bool
  blowerB : Bool
  deriving DecidableEq, Repr

/-- R128, R66, R38, R92: the four outgoing records. -/
structure Outgoing where
  left : TorqueRecord
  right : TorqueRecord
  chopper : ChopperRecord
  flow : Int
  deriving DecidableEq, Repr

/-- R127, R139: the fields of a TORQUE REPLY. -/
structure TorqueReply where
  torque : Int
  rpm : Nat
  winding : Nat
  fault : Bool
  derated : Bool
  ready : Bool
  deriving DecidableEq, Repr

/-- R127, R139: the fields of a CHOPPER REPLY. -/
structure ChopperReply where
  blowerA : Bool
  blowerB : Bool
  faultA : Bool
  faultB : Bool
  ready : Bool
  deriving DecidableEq, Repr

/-- R127, R139: the fields of a VALVE REPLY. -/
structure ValveReply where
  spool : Int
  fault : Bool
  pump : Bool
  deriving DecidableEq, Repr

/-- R128: the fields of the last accepted reply of a station. -/
inductive Reply where
  | torque (r : TorqueReply)
  | chopper (r : ChopperReply)
  | valve (r : ValveReply)
  deriving DecidableEq, Repr

/-- R128: the station's totals, GOOD and each reason in the order of R136's codes. -/
structure Totals where
  good : Nat
  bad : Vector Nat 10
  deriving DecidableEq, Repr

/-- R128: one station record, less the Outgoing Record, which stands in `Outgoing`. -/
structure Station where
  state : StationState
  counter : Nat
  lastGood : Option Reply
  lastAccepted : Option Nat
  goodRun : Nat
  missRun : Nat
  totals : Totals
  lastReason : Option Reason
  deriving DecidableEq, Repr

/-- R127: one character of a command frame: its data and its mark bit. -/
structure TxChar where
  data : BitVec 8
  mark : Bool
  deriving DecidableEq, Repr

/-- R130, R131, R135: the exchange in progress. `toSend`: characters not yet begun. `windowOpen`: the reply window is open.
`gotFirst`: the window's first character has arrived. `stray`: that character named another station.
`judged`: the reason of a frame that reached 12 characters and waits for the mute's end (R134). `endsAfter`: the idle span that ends
the frame has passed, and so many characters that arrived before it are still to be drained (R134). -/
structure ExchangeInProgress where
  station : StationId
  counter : Nat
  toSend : List TxChar
  windowOpen : Bool
  gotFirst : Bool
  stray : Bool
  judged : Option Reason
  endsAfter : Option Nat
  deriving DecidableEq, Repr

/-- R132, R140: a character sent, with the station polled and its echo, once that has been received. -/
structure Sending where
  station : StationId
  char : TxChar
  echo : Option RxChar
  deriving DecidableEq, Repr

/-- R133, R134: the frame under assembly, with its two marks other than LENGTH. -/
structure Frame where
  chars : List RxChar
  noHeader : Bool
  overrun : Bool
  deriving DecidableEq, Repr

/-- R128: the Wheel Link Master's state. `muted` is the receiver's mute (R134, R135), `halting` a HALT on the line or the
driven idle after it (R144), `held` the assembler's hold (R133). `sending` is the character on the line, `awaited` the one
sent before it while its echo is awaited within the allowance of R140. `awaitHigh`: the last character's stop bit was low and
the receiver waits for the line to be high for one bit-time (R126). -/
structure Link where
  stations : Vector Station 4
  outgoing : Outgoing
  pollIndex : Nat
  exchange : Option ExchangeInProgress
  sending : Option Sending
  awaited : Option Sending
  awaitHigh : Bool
  queue : List RxChar
  frame : Frame
  muted : Bool
  held : Bool
  enabled : Bool
  haltPending : Bool
  halting : Bool
  stuck : Bool
  overrunCount : Nat
  unsolicitedCount : Nat
  mismatchL : Option Nat
  mismatchR : Option Nat
  deriving DecidableEq, Repr

/-! ## Scan Unit and Speed Timers -/

/-- R150: a Sample Table entry's State. -/
inductive SampleState where
  | never | valid | outOfRange
  deriving DecidableEq, Repr

/-- R150: Out Cause. -/
inductive OutCause where
  | low | high | saturated
  deriving DecidableEq, Repr

/-- R150: one Sample Table entry. -/
structure Sample where
  state : SampleState
  value : Int
  lastRead : Int
  outCause : Option OutCause
  deriving DecidableEq, Repr

/-- R151: the Scan Unit's state; the out-of-range set is read off the table. `busy`: a strobe is in progress (R152). -/
structure Scan where
  table : Vector Sample 14
  index : Nat
  passNumber : Nat
  busy : Bool
  deriving DecidableEq, Repr

/-- R158: a channel's State. -/
inductive ChannelState where
  | running | silent | failed
  deriving DecidableEq, Repr

/-- R158: one channel record; times and periods in µs. -/
structure ChannelRecord where
  state : ChannelState
  lastEdge : Option Nat
  periods : List Nat
  speed : Nat
  glitches : Nat
  deriving DecidableEq, Repr

/-- R160: the reference mark. -/
inductive ReferenceMark where
  | frontBoth | frontLOnly | frontROnly | degraded
  deriving DecidableEq, Repr

/-- R158, R160: the Speed Timers' state. -/
structure Speed where
  channels : Vector ChannelRecord 4
  v : Nat
  mark : ReferenceMark
  deriving DecidableEq, Repr

/-! ## Supervision Monitor, Self-Load Pattern Generator, Trace Recorder -/

/-- R163: Window State. -/
inductive WindowState where
  | longWindow | earlyZone | validZone
  deriving DecidableEq, Repr

/-- R163: Last Failure. -/
inductive FailureKind where
  | early | late
  deriving DecidableEq, Repr

/-- R163: the monitor record. `running`: the window timer has been started (R163). -/
structure Supervision where
  window : WindowState
  windowStart : Nat
  failureCount : Nat
  goodCount : Nat
  lastFailure : Option FailureKind
  lastFailureTime : Nat
  decayRunning : Bool
  running : Bool
  deriving DecidableEq, Repr

/-- R173: Phase. -/
inductive Phase where
  | idle | leadIn | body | leadOut
  deriving DecidableEq, Repr

/-- R174: Shape. -/
inductive Shape where
  | stair | cycle
  deriving DecidableEq, Repr

/-- R174: Banks, as the two banks selected. -/
structure Pattern where
  shape : Shape
  count : Nat
  stepDuration : Nat
  totalDuration : Nat
  leadIn : Nat
  leadOut : Nat
  selectA : Bool
  selectB : Bool
  deriving DecidableEq, Repr

/-- R173: Step Sums: a sum and a count for each of the three roles. -/
structure StepSums where
  v : Int
  vCount : Nat
  iA : Int
  iACount : Nat
  iB : Int
  iBCount : Nat
  deriving DecidableEq, Repr

/-- R178: Test State. -/
inductive TestState where
  | none | running | complete | aborted
  deriving DecidableEq, Repr

/-- R189: the causes of ABORTED, coded 1 to 10; the first eight are R180's. -/
inductive AbortCause where
  | restart | stopped | supervision | overvoltage | station | bankTrip | moved | unparked | sensor | loadCycle
  deriving DecidableEq, Repr

/-- R178: the Step Result list's header as the generator keeps it. -/
structure ResultHeader where
  testState : TestState
  abortCause : Option AbortCause
  stepsRun : Nat
  recorded : Nat
  unrecorded : Nat
  deriving DecidableEq, Repr

/-- R173: the generator's record, the duty it last gave each bank (R183) and the result header (R178).
`stepOpen`: the step in progress has not been closed (R176). -/
structure SelfLoad where
  phase : Phase
  pattern : Pattern
  bodyLength : Nat
  phaseStart : Nat
  stepIndex : Nat
  stepStart : Nat
  stepEnd : Nat
  stepLevel : Int
  sums : StepSums
  stepsRun : Nat
  stepOpen : Bool
  givenA : Int
  givenB : Int
  header : ResultHeader
  deriving DecidableEq, Repr

/-- R196: the Trace Recorder's five items. `halfB`: the current half is B. -/
structure Trace where
  halfB : Bool
  index : Nat
  frameCount : Nat
  lost : Nat
  overrun : Bool
  deriving DecidableEq, Repr

/-! ## Timers and publications -/

/-- R3: the deadlines, in µs since power-on, of the timers that run; none for a stopped one. `governorPeriod` is the period
the governor frame timer was last started with (R22). -/
structure Timers where
  pickUp : Option Nat
  sweep : Option Nat
  governor : Option Nat
  governorPeriod : Nat
  dcLink : Option Nat
  thermal : Option Nat
  steering : Option Nat
  strobe : Option Nat
  silence : Vector (Option Nat) 4
  longWindow : Option Nat
  wMin : Option Nat
  wMax : Option Nat
  decay : Option Nat
  phase : Option Nat
  step : Option Nat
  reply : Option Nat
  haltIdle : Option Nat
  hold : Option Nat
  deriving DecidableEq, Repr

/-- R124: one wheel's published motor items. -/
structure MotorPublication where
  budget : Int
  budgetMax : Int
  held : Bool
  winding : Option Int
  propelCap : Int
  retardCap : Int
  deriving DecidableEq, Repr

/-- R41: what each block last published, which the governor frame copies into the Status Page: the Grid Manager (R73), the
Steering Servo with its tracking time (R104), the Load Monitor (R124), the Link Master (R148), the Supervision Monitor with
the time since Window Start (R172), the generator with the time since Phase Start (R183), and the Scan Unit's pass number,
Scan Index and out-of-range set (R162). The Sample Table and the speeds are published as they are written, so the page
reads them off their owners. -/
structure Publications where
  grid : Grid
  steer : Steer
  trackTime : Nat
  load : Load
  motorL : MotorPublication
  motorR : MotorPublication
  link : Link
  supervision : Supervision
  windowTime : Nat
  selfLoad : SelfLoad
  phaseTime : Nat
  passNumber : Nat
  scanIndex : Nat
  outSet : Word
  deriving DecidableEq, Repr

/-! ## The whole state -/

/-- The state of the part. -/
structure State where
  /-- The commands waiting, first in first out. -/
  pending : List Instr
  /-- Microseconds since power-on: the free-running 1 µs counter (R158) and, divided by 1000, the time stamp (R1). -/
  us : Nat
  /-- The model's own: how many free values the steps so far have drawn (assumption log 8). -/
  freeCount : Nat
  /-- R184: the Exchange RAM, in its canonical form (`Ram.wf`). -/
  ram : List RamCell
  /-- R185: the register window. -/
  window : Window
  /-- R191: the active settings; none since the last power-on reset. -/
  settings : Option Settings
  /-- R6, R71, R81, R171: the settings the blocks that APPLY SETTINGS does not restart work with until it completes. -/
  settled : Option Settings
  /-- The Exchange Unit (R188). -/
  exchange : Exchange
  /-- The Order Desk (R190). -/
  desk : OrderDesk
  /-- R194: the Fault Table. -/
  faults : Vector FaultRecord 43
  /-- R15: the Limit Table. -/
  rows : Vector LimitRow 17
  /-- The Drive Governor. -/
  drive : Drive
  /-- The Grid Manager. -/
  grid : Grid
  /-- The Steering Servo. -/
  steer : Steer
  /-- The Load Monitor. -/
  load : Load
  /-- The Wheel Link Master. -/
  link : Link
  /-- The Scan Unit. -/
  scan : Scan
  /-- The Speed Timers. -/
  speed : Speed
  /-- The Supervision Monitor. -/
  supervision : Supervision
  /-- The Self-Load Pattern Generator. -/
  selfLoad : SelfLoad
  /-- The Trace Recorder. -/
  trace : Trace
  /-- The timers (R3). -/
  timers : Timers
  /-- What the blocks last published (R41). -/
  published : Publications
  deriving DecidableEq, Repr

/-! ## Reset values -/

/-- R188: the all-zero slate with Direction NEUTRAL, which every reset leaves. -/
def Slate.zero : Slate :=
  { heartbeat := 0, direction := .neutral, propel := 0, retard := 0, speedHold := 0, zoneSpeed := 0, grade := 0,
    steering := 0, parkApplied := false, bodyRaised := false }

/-- R18: the limits published where none are computed. -/
def Limits.none : Limits :=
  { ls := 0, lsRow := 0, pl := 0, plRow := 0, pr := 0, prRow := 0, rl := 0, rlRow := 0, rr := 0, rrRow := 0 }

/-- R47: a bank after a power-on reset. Blower Since has no stated value: DESIGN CHOICE 0 (assumption log 13). -/
def Bank.initial : Bank :=
  { stage := .offline, theta := 0, modelRunning := false, duty := 0, meanDuty := 0, meanPower := 0, derate := 0,
    tripHistory := [], lastTripCause := none, circuitFailed := false, airOver := false, blowerDemand := false,
    blowerRunning := false, blowerSince := 0, startDue := false }

/-- R53: empty sums. -/
def GridSums.empty : GridSums :=
  { v := 0, iA := 0, iB := 0, dutyA := 0, dutyB := 0, vInvalid := false, iAInvalid := false, iBInvalid := false,
    frames := 0 }

/-- R74: the descent record after every reset. -/
def Descent.initial : Descent :=
  { condition := .notDriving, gradeUsed := 0, effectiveGrade := 0, grossMassUsed := 0, powerUsed := 0, value := 0 }

/-- R47: the Grid Manager after a power-on reset. The overvoltage entry time has no stated value: DESIGN CHOICE 0
(assumption log 13). -/
def Grid.initial : Grid :=
  { bankA := Bank.initial, bankB := Bank.initial, dutyTotal := 0, v := 0, ovHigh := false, ovEntry := 0,
    ovReported := false, ovRecheck := false, ovHeld := false, pAvail := 0, sums := GridSums.empty, lastMeanV := 0, grossMass := none,
    descent := Descent.initial, reportAnew := false }

/-- R86: the servo after a power-on reset. Ce, Cl and the two pressures last read have no stated value:
DESIGN CHOICE 0 (assumption log 13). -/
def Steer.initial : Steer :=
  { state := .off, failCause := none, source := .held, sourceDemand := 0, maxAngle := 0, limitedDemand := 0, step := 0,
    target := 0, measured := 0, flow := 0, trackSince := none, supplyLow := false, lowSince := none,
    recoverSince := none, reserveStrokes := 0, kL := 1000, kR := 1000, curveAngle := 0, fraction := 0, ce := 0, cl := 0,
    supplyRead := 0, accumulatorRead := 0, first := true, awaitPass := false, rowFor := none, given := none }

/-- R107: a wheel's motor record after every reset. -/
def Motor.initial : Motor :=
  { budget := 0, held := false, lastReply := none, winding := none, propelCap := 1000, retardCap := 1000 }

/-- R107: the Load Monitor after a power-on reset. Payload Used, UNWEIGHED, the ratio and the pressures last read have no
stated value: DESIGN CHOICE 0 and clear (assumption log 13). -/
def Load.initial : Load :=
  { cycle := .empty, sprungMass := 0, livePayload := 0, tare := 0, tareSet := false, emptyConfirmed := false,
    weighBuffer := [], band := none, moveSince := none, latchedPayload := 0, latchedUnweighed := false,
    payloadUsed := 0, unweighed := false, ratio := 0, loadClass := .normal, cycleCount := 0, tareProgress := none,
    pressFL := 0, pressFR := 0, pressRL := 0, pressRR := 0, motorL := Motor.initial, motorR := Motor.initial,
    acting := false, afterReset := true, afterApply := false }

/-- R129: a station record after every reset. -/
def Station.initial : Station :=
  { state := .absent, counter := 0, lastGood := none, lastAccepted := none, goodRun := 0, missRun := 0,
    totals := { good := 0, bad := Vector.replicate 10 0 }, lastReason := none }

/-- R38, R66, R86: the outgoing records after every reset. -/
def Outgoing.initial : Outgoing :=
  { left := { torque := 0, enable := false, reverse := false }, right := { torque := 0, enable := false, reverse := false },
    chopper := { dutyA := 0, dutyB := 0, blowerA := false, blowerB := false }, flow := 0 }

/-- R134: the empty frame under assembly. -/
def Frame.empty : Frame := { chars := [], noHeader := false, overrun := false }

/-- R129: the Link Master after a power-on reset. -/
def Link.initial : Link :=
  { stations := Vector.replicate 4 Station.initial, outgoing := Outgoing.initial, pollIndex := 0, exchange := none,
    sending := none, awaited := none, awaitHigh := false, queue := [], frame := Frame.empty, muted := false, held := false, enabled := true,
    haltPending := false, halting := false, stuck := false, overrunCount := 0, unsolicitedCount := 0, mismatchL := none,
    mismatchR := none }

/-- R151: a Sample Table entry in NEVER. -/
def Sample.never : Sample := { state := .never, value := 0, lastRead := 0, outCause := none }

/-- R151: the Scan Unit after every reset. -/
def Scan.initial : Scan := { table := Vector.replicate 14 Sample.never, index := 0, passNumber := 0, busy := false }

/-- R161: a channel after every reset. -/
def ChannelRecord.initial : ChannelRecord :=
  { state := .silent, lastEdge := none, periods := [], speed := 0, glitches := 0 }

/-- R161: the Speed Timers after every reset. -/
def Speed.initial : Speed := { channels := Vector.replicate 4 ChannelRecord.initial, v := 0, mark := .frontBoth }

/-- R163: the monitor after a power-on reset. -/
def Supervision.initial : Supervision :=
  { window := .longWindow, windowStart := 0, failureCount := 0, goodCount := 0, lastFailure := none, lastFailureTime := 0,
    decayRunning := false, running := false }

/-- R173: the pattern of zeros (Shape code 0 is STAIR). -/
def Pattern.zero : Pattern :=
  { shape := .stair, count := 0, stepDuration := 0, totalDuration := 0, leadIn := 0, leadOut := 0, selectA := true,
    selectB := false }

/-- R173: empty Step Sums. -/
def StepSums.empty : StepSums := { v := 0, vCount := 0, iA := 0, iACount := 0, iB := 0, iBCount := 0 }

/-- R178: the header of the cleared list. -/
def ResultHeader.cleared : ResultHeader :=
  { testState := .none, abortCause := none, stepsRun := 0, recorded := 0, unrecorded := 0 }

/-- R173: the generator after every reset, but for the header, which only a power-on reset clears (R178). -/
def SelfLoad.initial : SelfLoad :=
  { phase := .idle, pattern := Pattern.zero, bodyLength := 0, phaseStart := 0, stepIndex := 0, stepStart := 0,
    stepEnd := 0, stepLevel := 0, sums := StepSums.empty, stepsRun := 0, stepOpen := false, givenA := 0, givenB := 0,
    header := ResultHeader.cleared }

/-- R197: the Trace Recorder after every reset. -/
def Trace.initial : Trace := { halfB := false, index := 0, frameCount := 0, lost := 0, overrun := false }

/-- R124: the motor items of a wheel from which no reply has been accepted. Bmax before any settings has no stated
value: DESIGN CHOICE 0 (assumption log 13). -/
def MotorPublication.initial : MotorPublication :=
  { budget := 0, budgetMax := 0, held := false, winding := none, propelCap := 1000, retardCap := 1000 }

/-- R3, R22, R188, R189: after a power-on reset the pick-up, the board sweep and the governor frame (2 ms) run. -/
def Timers.initial : Timers :=
  { pickUp := some 1000, sweep := some 1000, governor := some 2000, governorPeriod := 2000, dcLink := none,
    thermal := none, steering := none, strobe := none, silence := Vector.replicate 4 none, longWindow := none,
    wMin := none, wMax := none, decay := none, phase := none, step := none, reply := none, haltIdle := none,
    hold := none }

/-- What the blocks have published right after a power-on reset: their reset values (assumption log 14). -/
def Publications.initial : Publications :=
  { grid := Grid.initial, steer := Steer.initial, trackTime := 0, load := Load.initial,
    motorL := MotorPublication.initial, motorR := MotorPublication.initial, link := Link.initial,
    supervision := Supervision.initial, windowTime := 0, selfLoad := SelfLoad.initial, phaseTime := 0, passNumber := 0,
    scanIndex := 0, outSet := 0 }

/-- R184: after a power-on reset every word is 0 but the Code word of each Fault Table record. -/
def resetRam : List RamCell :=
  (List.range 43).map (fun k => (0x0300 + 8 * k, BitVec.ofNat 16 (k + 1)))

/-- The part right after a power-on reset (R5, R21, R44, R47, R86, R107, R129, R151, R161, R163, R173, R184, R185, R186, R188,
R190, R194, R197). -/
def State.reset : State :=
  { pending := []
    us := 0
    freeCount := 0
    ram := resetRam
    window := { runctl := 0, attn := 0, attnen := 0 }
    settings := none
    settled := none
    exchange := { slate := Slate.zero, lastStamp := none, torn := 0 }
    desk := { apply := none, start := none, tare := none }
    faults := Vector.replicate 43
      { active := false, latched := false, count := 0, firstTime := 0, lastTime := 0, detail := 0 }
    rows := Vector.replicate 17 { active := false, value := 0, since := 0, changes := 0 }
    drive :=
      { mode := .unconfigured, since := 0, tripCause := none, held := .neutral, travel := .forward, integrator := 0,
        corrL := 1000, corrR := 1000, qL := 0, qR := 0, gate := false, limits := Limits.none, overSince := none,
        pageStamp := 0 }
    grid := Grid.initial
    steer := Steer.initial
    load := Load.initial
    link := Link.initial
    scan := Scan.initial
    speed := Speed.initial
    supervision := Supervision.initial
    selfLoad := SelfLoad.initial
    trace := Trace.initial
    timers := Timers.initial
    published := Publications.initial }

end Sys2Proof.Machine
end

