-- ==== Sys2Proof/Machine/Update.lean ====
section
/-! DEFINITION. One named update per field of the State, so that every operation says which pieces it writes and
Laws/State.lean says once what each update leaves alone. -/

namespace Sys2Proof.Machine

/-- The state with its `pending` replaced. -/
def State.setPending (s : State) (x : List Instr) : State := { s with pending := x }

/-- The state with its `us` replaced. -/
def State.setUs (s : State) (x : Nat) : State := { s with us := x }

/-- The state with its `freeCount` replaced. -/
def State.setFreeCount (s : State) (x : Nat) : State := { s with freeCount := x }

/-- The state with its `ram` replaced. -/
def State.setRam (s : State) (x : List RamCell) : State := { s with ram := x }

/-- The state with its `window` replaced. -/
def State.setWindow (s : State) (x : Window) : State := { s with window := x }

/-- The state with its `settings` replaced. -/
def State.setSettings (s : State) (x : Option Settings) : State := { s with settings := x }

/-- The state with its `settled` replaced. -/
def State.setSettled (s : State) (x : Option Settings) : State := { s with settled := x }

/-- The state with its `exchange` replaced. -/
def State.setExchange (s : State) (x : Exchange) : State := { s with exchange := x }

/-- The state with its `desk` replaced. -/
def State.setDesk (s : State) (x : OrderDesk) : State := { s with desk := x }

/-- The state with its `faults` replaced. -/
def State.setFaults (s : State) (x : Vector FaultRecord 43) : State := { s with faults := x }

/-- The state with its `rows` replaced. -/
def State.setRows (s : State) (x : Vector LimitRow 17) : State := { s with rows := x }

/-- The state with its `drive` replaced. -/
def State.setDrive (s : State) (x : Drive) : State := { s with drive := x }

/-- The state with its `grid` replaced. -/
def State.setGrid (s : State) (x : Grid) : State := { s with grid := x }

/-- The state with its `steer` replaced. -/
def State.setSteer (s : State) (x : Steer) : State := { s with steer := x }

/-- The state with its `load` replaced. -/
def State.setLoad (s : State) (x : Load) : State := { s with load := x }

/-- The state with its `link` replaced. -/
def State.setLink (s : State) (x : Link) : State := { s with link := x }

/-- The state with its `scan` replaced. -/
def State.setScan (s : State) (x : Scan) : State := { s with scan := x }

/-- The state with its `speed` replaced. -/
def State.setSpeed (s : State) (x : Speed) : State := { s with speed := x }

/-- The state with its `supervision` replaced. -/
def State.setSupervision (s : State) (x : Supervision) : State := { s with supervision := x }

/-- The state with its `selfLoad` replaced. -/
def State.setSelfLoad (s : State) (x : SelfLoad) : State := { s with selfLoad := x }

/-- The state with its `trace` replaced. -/
def State.setTrace (s : State) (x : Trace) : State := { s with trace := x }

/-- The state with its `timers` replaced. -/
def State.setTimers (s : State) (x : Timers) : State := { s with timers := x }

/-- The state with its `published` replaced. -/
def State.setPublished (s : State) (x : Publications) : State := { s with published := x }

end Sys2Proof.Machine
end

