-- ==== Sys2Proof/Machine/Flags.lean ====
section
/-! DEFINITION. The flag words: the attention causes and the ATTN line (R184, R185, R187), and the flag bits of the Fault
Table (R194), the Demand Slate (R188) and the reply frames (R127). -/

namespace Sys2Proof.Machine

/-- R184: the six attention causes, by bit. -/
inductive Cause where
  | orderDone | fault | mode | limit | traceHalf | supervision
  deriving DecidableEq, Repr

/-- R184: a cause's bit in ATTN and ATTNEN. -/
def Cause.mask : Cause → Word
  | .orderDone => 0x0001
  | .fault => 0x0002
  | .mode => 0x0004
  | .limit => 0x0008
  | .traceHalf => 0x0010
  | .supervision => 0x0020

/-- R185: bits 0 to 5; bits 6 to 15 read 0 and ignore writes. -/
def causeBits : Word := 0x003F

/-- R187: a cause bit is set whether or not its enable is set. -/
def Window.raise (w : Window) (c : Cause) : Window := { w with attn := w.attn ||| c.mask }

/-- R187: a write to ATTN clears each cause written as one. -/
def Window.clearCauses (w : Window) (value : Word) : Window := { w with attn := w.attn &&& ~~~value }

/-- R185: a write to ATTNEN replaces enable bits 0 to 5. -/
def Window.setEnables (w : Window) (value : Word) : Window := { w with attnen := value &&& causeBits }

/-- R187: the ATTN line is high while any cause bit is set whose enable bit is also set. -/
def Window.attnLine (w : Window) : Bool := w.attn &&& w.attnen &&& causeBits != 0

/-- R187: sets a cause in the ATTN register. -/
def State.raiseCause (s : State) (c : Cause) : State := s.setWindow (s.window.raise c)

/-- Whether bit `k` of a word is set. -/
def wordBit (w : Word) (k : Nat) : Bool := w.getLsbD k

/-- Whether bit `k` of a character's data is set (R127). -/
def dataBit (b : BitVec 8) (k : Nat) : Bool := b.getLsbD k

/-- A word of one-bit flags, bit 0 first. -/
def flagWord (flags : List Bool) : Word :=
  flags.foldr (fun b acc => acc * 2 + (if b then 1 else 0)) 0

/-- A mask of unmet conditions: bit k set where the k-th condition does not hold (R7, R109, R174). -/
def unmetMask (conditions : List Bool) : Word := flagWord (conditions.map (fun c => !c))

end Sys2Proof.Machine
end

