-- ==== Sys2Proof/Config.lean ====
section
/-! DEFINITION. What the manual leaves open: the FREE VALUES. Each is a constant with no body, so no proof can
rest on what it is. Where the manual states an effect but not the value for some operands, the command runs and
that one value is taken from here (assumption log 7 to 11, 25 and 51). -/

namespace Sys2Proof.Config

/-- The word that a one-word published item shows when its value lies outside what 16 bits hold
(R193 gives the item one word and no rule for such a value). Assumption log 7. -/
opaque wideWord : Int → Word

/-- The published value of a stage item whose stage the frame does not run and whose fixed value R23 does not
state: e, u_w and Q*_w outside ARMED and FALLBACK, and T in UNCONFIGURED. The first argument is the free-value
counter of the State, the second the item. Assumption log 8. -/
opaque unrunStage : Nat → Nat → Int

/-- The mean over no samples at all (R53 when no DC-link frame fell into the thermal frame). The first argument
is the free-value counter, the second the mean. Assumption log 9. -/
opaque emptyMean : Nat → Nat → Int

/-- The load fraction f before the Load Monitor has given its first values after a reset (R102 names the values
given; none is given yet). Kept to the [0, 1000] the manual bounds it by. Assumption log 10. -/
opaque loadFraction : Nat → Int

/-- The Tare that a TARE LOAD stores when the sample mean falls outside R106's 0 to 65535. Assumption log 11. -/
opaque tareOutOfRange : Int → Int

/-- The word a published item shows while the record holds no value for it and R193 gives no encoding: 0 the left winding
temperature, 1 the right one, 2 the Weigh Buffer's mean while the buffer is empty. Assumption log 25. -/
opaque absentItem : Nat → Word

/-- D_b of a bank that R48 has settled DERATED at a θ of Trip θ or more, where R61's formula leaves the [1, 1000] that R61
gives. The arguments are θ, Warn θ and Trip θ. Kept to [1, 1000]. Assumption log 51. -/
opaque overTripDerate : Int → Int → Int → Int

end Sys2Proof.Config
end

