-- ==== Sys2Proof/Machine/Operands.lean ====
section
/-! DEFINITION. How values are read from words and put into words: signed and unsigned fields, clamping and interpolation
(R2), time stamp differences, and the encodings of the Status Page (R193). -/

namespace Sys2Proof.Machine

/-! ## Arithmetic (R2)

Every divisor in the manual is positive, so Int division `/` (which rounds toward minus infinity for a positive divisor) is
the manual's floor; `Int.tdiv` is "toward zero". -/

/-- R2: "clamped to [lo, hi]". -/
def clamp (lo hi x : Int) : Int := if x < lo then lo else if hi < x then hi else x

/-- The absolute value the rules write with bars. -/
def magnitude (x : Int) : Int := if x < 0 then -x else x

/-- R1: the difference of two time stamps modulo 2³². -/
def elapsed (now since : Nat) : Nat := (now + (stampRange - since % stampRange)) % stampRange

/-- A count that saturates at `top`. -/
def saturate (top n : Nat) : Nat := if top < n then top else n

/-- R2, R90: floor-rounded linear interpolation; the first value below the first breakpoint, the last above the last. -/
def interpolate : List Breakpoint → Int → Int
  | [], _ => 0
  | [p], _ => p.y
  | p :: q :: rest, x =>
    if x ≤ p.x then p.y
    else if x < q.x then p.y + (q.y - p.y) * (x - p.x) / (q.x - p.x)
    else interpolate (q :: rest) x

/-- R2: the floor mean of a nonempty list of samples; 0 for an empty list, which no rule takes a mean of. -/
def floorMean (xs : List Int) : Int := if xs.isEmpty then 0 else xs.sum / xs.length

/-! ## Words -/

/-- 00_scope.md: "A 32-bit field occupies two consecutive words, with the low word first". -/
def twoWords (n : Nat) : List Word := [BitVec.ofNat 16 n, BitVec.ofNat 16 (n / 65536)]

/-- The value of two words, low word first. -/
def joinWords (low high : Word) : Nat := low.toNat + 65536 * high.toNat

/-- A published quantity in one word: unsigned or in two's complement. A value that 16 bits do not hold is free (log 7). -/
def wordOf (x : Int) : Word := if -32768 ≤ x ∧ x ≤ 65535 then BitVec.ofInt 16 x else Config.wideWord x

/-- R193: an item of the Status Page: one that fits a byte, one word, or two words. -/
inductive Item where
  | byte (n : Nat)
  | word (w : Word)
  | two (n : Nat)
  deriving DecidableEq, Repr

/-- R193: items in order, with two neighbouring byte items sharing a word, the first in the low byte. -/
def packItems : List Item → List Word
  | [] => []
  | .byte a :: .byte b :: rest => BitVec.ofNat 16 (a % 256 + 256 * (b % 256)) :: packItems rest
  | .byte a :: rest => BitVec.ofNat 16 (a % 256) :: packItems rest
  | .word w :: rest => w :: packItems rest
  | .two n :: rest => BitVec.ofNat 16 n :: BitVec.ofNat 16 (n / 65536) :: packItems rest

/-- R193: a region of `n` words: its items packed, and "Words of a region that its items do not fill are 0". -/
def region (n : Nat) (items : List Item) : List Word := (packItems items ++ List.replicate n 0).take n

/-- R193: a quantity as a one-word item. -/
def Item.int (x : Int) : Item := .word (wordOf x)

/-- R193: a flag as an item. -/
def Item.flag (b : Bool) : Item := .byte (if b then 1 else 0)

/-! ## Codes (R193, and the rules it cites) -/

/-- 1.5: a row's number. -/
def RowId.number (r : RowId) : Nat := r.index + 1

/-- R194: a fault code's number. -/
def FaultCode.number (c : FaultCode) : Nat := c.index + 1

/-- R150: a role's number. -/
def Role.number (r : Role) : Nat := r.index + 1

/-- The number of a station. -/
def StationId.number (n : StationId) : Nat := n.index + 1

/-- R193: "An item that holds a fault code holds its number, and 0 for none". -/
def faultNumber : Option FaultCode → Nat
  | none => 0
  | some c => c.number

/-- R194: the fault code of a number from 1 to 43. -/
def FaultCode.ofNumber (n : Nat) : Option FaultCode := if n = 0 then none else FaultCode.all[n - 1]?

/-- R150: the role of a number from 1 to 14. -/
def Role.ofNumber (n : Nat) : Option Role := if n = 0 then none else Role.all[n - 1]?

/-- R193: the Drive Mode's code. -/
def Mode.code : Mode → Nat
  | .unconfigured => 0
  | .disarmed => 1
  | .armed => 2
  | .fallback => 3
  | .selfLoad => 4
  | .tripped => 5

/-- R188: the Direction's code. -/
def Direction.code : Direction → Nat
  | .neutral => 0
  | .forward => 1
  | .reverse => 2

/-- R193: "Direction and the travel sense hold the codes of the Demand Slate". -/
def TravelSense.code : TravelSense → Nat
  | .forward => 1
  | .reverse => 2

/-- R188: "A Direction code above 2 is taken as NEUTRAL". -/
def Direction.ofCode (n : Nat) : Direction := if n = 1 then .forward else if n = 2 then .reverse else .neutral

/-- R46: Stage, by its place in the record's list. -/
def Stage.code : Stage → Nat
  | .ready => 0
  | .derated => 1
  | .tripped => 2
  | .lockedOut => 3
  | .offline => 4

/-- R52: Last Trip Cause's numbers. -/
def BankTrip.code : BankTrip → Nat
  | .theta => 1
  | .air => 2
  | .circuit => 3
  | .chopper => 4

/-- R74: Condition, by its place in the record's list. -/
def DescentCondition.code : DescentCondition → Nat
  | .notDriving => 0
  | .notDownhill => 1
  | .noPower => 2
  | .active => 3
  | .ceiling => 4

/-- R85: State, by its place in the record's list. -/
def SteerState.code : SteerState → Nat
  | .off => 0
  | .normal => 1
  | .reserve => 2
  | .failed => 3

/-- R85: Source In Use, by its place in the record's list. -/
def SteerSource.code : SteerSource → Nat
  | .slate => 0
  | .handwheel => 1
  | .held => 2

/-- R106: Cycle State, by its place in the record's list. -/
def Cycle.code : Cycle → Nat
  | .empty => 0
  | .loading => 1
  | .hauling => 2
  | .dumping => 3

/-- R106: Load Class, by its place in the record's list. -/
def LoadClass.code : LoadClass → Nat
  | .normal => 0
  | .class1 => 1
  | .class2 => 2

/-- R128: State, by its place in the record's list. -/
def StationState.code : StationState → Nat
  | .absent => 0
  | .present => 1
  | .lost => 2

/-- R136: the reasons' codes. -/
def Reason.code : Reason → Nat
  | .missing => 1
  | .stray => 2
  | .noHeader => 3
  | .overrun => 4
  | .character => 5
  | .mark => 6
  | .length => 7
  | .kind => 8
  | .check => 9
  | .counter => 10

/-- The place of a reason's total: its code less one (R128, R136). -/
def Reason.index : Reason → Fin 10
  | .missing => 0
  | .stray => 1
  | .noHeader => 2
  | .overrun => 3
  | .character => 4
  | .mark => 5
  | .length => 6
  | .kind => 7
  | .check => 8
  | .counter => 9

/-- R150: State, by its place in the record's list. -/
def SampleState.code : SampleState → Nat
  | .never => 0
  | .valid => 1
  | .outOfRange => 2

/-- R150, R193: Out Cause, with none 0. -/
def OutCause.code : OutCause → Nat
  | .low => 1
  | .high => 2
  | .saturated => 3

/-- R158: State, by its place in the record's list. -/
def ChannelState.code : ChannelState → Nat
  | .running => 0
  | .silent => 1
  | .failed => 2

/-- R160: the reference mark, by its place in the rule's list. -/
def ReferenceMark.code : ReferenceMark → Nat
  | .frontBoth => 0
  | .frontLOnly => 1
  | .frontROnly => 2
  | .degraded => 3

/-- R163: Window State, by its place in the record's list. -/
def WindowState.code : WindowState → Nat
  | .longWindow => 0
  | .earlyZone => 1
  | .validZone => 2

/-- R163, R193: Last Failure, with none 0. -/
def FailureKind.code : FailureKind → Nat
  | .early => 1
  | .late => 2

/-- R173: Phase, by its place in the record's list (R181 numbers them alike). -/
def Phase.code : Phase → Nat
  | .idle => 0
  | .leadIn => 1
  | .body => 2
  | .leadOut => 3

/-- R198: Test State's numbers. -/
def TestState.code : TestState → Nat
  | .none => 0
  | .running => 1
  | .complete => 2
  | .aborted => 3

/-- R189: the ABORTED causes' codes. -/
def AbortCause.code : AbortCause → Nat
  | .restart => 1
  | .stopped => 2
  | .supervision => 3
  | .overvoltage => 4
  | .station => 5
  | .bankTrip => 6
  | .moved => 7
  | .unparked => 8
  | .sensor => 9
  | .loadCycle => 10

/-- R193: an enumerated item that may be none, which is 0. -/
def optionCode {α : Type} (code : α → Nat) : Option α → Nat
  | none => 0
  | some x => code x

/-! ## Fault codes that exist once per bank, wheel or station (00_scope.md) -/

/-- STATION n LOST. -/
def StationId.lostCode : StationId → FaultCode
  | .inverterL => .station1Lost
  | .inverterR => .station2Lost
  | .chopper => .station3Lost
  | .valve => .station4Lost

/-- BANK x TRIP. -/
def BankId.tripCode : BankId → FaultCode
  | .a => .bankATrip
  | .b => .bankBTrip

/-- BANK x LOCKOUT. -/
def BankId.lockoutCode : BankId → FaultCode
  | .a => .bankALockout
  | .b => .bankBLockout

/-- BANK x CIRCUIT. -/
def BankId.circuitCode : BankId → FaultCode
  | .a => .bankACircuit
  | .b => .bankBCircuit

/-- BANK x AIR OVERTEMP. -/
def BankId.airCode : BankId → FaultCode
  | .a => .bankAAirOvertemp
  | .b => .bankBAirOvertemp

/-- BLOWER x FAULT. -/
def BankId.blowerCode : BankId → FaultCode
  | .a => .blowerAFault
  | .b => .blowerBFault

/-- INVERTER L FAULT or INVERTER R FAULT. -/
def Wheel.inverterCode : Wheel → FaultCode
  | .left => .inverterLFault
  | .right => .inverterRFault

/-- SPEED MISMATCH L or R. -/
def Wheel.mismatchCode : Wheel → FaultCode
  | .left => .speedMismatchL
  | .right => .speedMismatchR

/-- MOTOR L or R OVERLOAD HELD. -/
def Wheel.heldCode : Wheel → FaultCode
  | .left => .motorLOverloadHeld
  | .right => .motorROverloadHeld

/-- MOTOR L or R OVERTEMP. -/
def Wheel.overtempCode : Wheel → FaultCode
  | .left => .motorLOvertemp
  | .right => .motorROvertemp

/-- R11: the trip causes. -/
def FaultCode.isTripCause : FaultCode → Bool
  | .dcLinkOvervoltage | .station1Lost | .station2Lost | .station3Lost => true
  | .inverterLFault | .inverterRFault | .linkEcho | .lineStuck => true
  | _ => false

/-- R194: the codes whose Detail is not always 0, "the codes that carry one". -/
def FaultCode.carriesDetail : FaultCode → Bool
  | .station1Lost | .station2Lost | .station3Lost | .station4Lost => true
  | .linkEcho | .retardInsufficient | .bankATrip | .bankBTrip => true
  | .strutSensorInvalid | .scanRoleRange => true
  | _ => false

/-! ## Rows: quantity and scope (1.5) -/

/-- 1.5: the quantity a row limits. -/
inductive Quantity where
  | speed | propel | retard
  deriving DecidableEq, Repr

/-- 1.5: each row's quantity. -/
def RowId.quantity : RowId → Quantity
  | .speedCeiling | .zoneSpeed | .descentSpeed | .curveSpeed | .steerReserveSpeed => .speed
  | .loadClassSpeed | .fallbackSpeed => .speed
  | .propelCeiling | .loadClassPropel | .motorPropelLeft | .motorPropelRight | .linkUndervoltagePropel => .propel
  | .retardCeiling | .gridCapacity | .motorRetardLeft | .motorRetardRight | .linkOvervoltageRetard => .retard

/-- 1.5: whether a row's scope is BOTH or names the wheel. -/
def RowId.covers (w : Wheel) : RowId → Bool
  | .motorPropelLeft | .motorRetardLeft => w = .left
  | .motorPropelRight | .motorRetardRight => w = .right
  | _ => true

/-- R15: the top of a quantity's range. -/
def Quantity.top : Quantity → Int
  | .speed => 900
  | .propel => 1000
  | .retard => 1000

end Sys2Proof.Machine
end

