-- ==== Sys2Proof/Machine/Settings.lean ====
section
/-! DEFINITION. The Setting Block: the defaults, the fields with their ranges, the cross-field comparisons, and how a checked
block becomes the active settings (R191, with R16, R43, R71, R81, R105, R125, R149, R157, R161, R171, R183, R196). -/

namespace Sys2Proof.Machine

/-! ## Defaults -/

/-- R71: the default settings of a bank. -/
def defaultBank : BankSettings :=
  { enabled := true, ratedPower := 2400, resistance := 1200, warnTheta := 6000, tripTheta := 6500, restartTheta := 4500,
    airTrip := 4000, heatingGain := 20, coolingGain := 8, noBlower := 300 }

/-- R157: an entry of the default list, which converts every input on the 5.0 V range. -/
def defaultEntry (input : Nat) (role : Role) (averaging : Nat) (offset scale : Int) : ScanEntry :=
  { input := input, range := 3, role := role, averaging := averaging, offset := offset, scale := scale }

/-- R157: the default Scan List. -/
def defaultScanList : List ScanEntry :=
  [defaultEntry 0 .dcLinkVoltage 1 0 750, defaultEntry 1 .bankACurrent 4 0 500, defaultEntry 2 .bankBCurrent 4 0 500,
   defaultEntry 3 .roadWheelAngle 2 (-4500) 2250, defaultEntry 4 .steerSupply 4 0 7500,
   defaultEntry 5 .accumulator 4 0 7500, defaultEntry 0 .dcLinkVoltage 1 0 750, defaultEntry 6 .bankAAir 8 (-400) 2500,
   defaultEntry 7 .bankBAir 8 (-400) 2500, defaultEntry 8 .strutFL 16 0 7500, defaultEntry 9 .strutFR 16 0 7500,
   defaultEntry 10 .ambient 8 (-400) 250, defaultEntry 0 .dcLinkVoltage 1 0 750, defaultEntry 11 .strutRL 16 0 7500,
   defaultEntry 12 .strutRR 16 0 7500, defaultEntry 13 .handwheelAngle 2 (-7200) 3600]

/-- R157: the default limits, in role order. -/
def defaultLimits : List RoleLimits :=
  [⟨0, 2950⟩, ⟨0, 1950⟩, ⟨0, 1950⟩, ⟨-400, 9000⟩, ⟨-400, 9000⟩, ⟨-400, 600⟩, ⟨100, 29000⟩, ⟨100, 29000⟩, ⟨100, 29000⟩,
   ⟨100, 29000⟩, ⟨0, 29000⟩, ⟨0, 29000⟩, ⟨-4300, 4300⟩, ⟨-7000, 7000⟩]

/-- The defaults the chapters give. The Trace settings have none stated: trace off (they are not used before the first
APPLY SETTINGS; assumption log 15). Before the first APPLY SETTINGS the part uses only the values a rule says it uses then:
K (R161), Max Lock Angle (R188) and the Frame Period (R22). -/
def defaultSettings : Settings :=
  { ceilings := { forwardSpeed := 560, reverseSpeed := 120, propel := 1000, retard := 1000 }
    governing :=
      { framePeriod := 2, kp := 16, ki := 8, slipThreshold := 120, cMin := 300, cutStep := 100, recoverStep := 20, ramp := 20 }
    grids :=
      { bankA := defaultBank, bankB := defaultBank, altitudeCooling := 1000, lockoutWindow := 600, startTemperature := 3000,
        blowerOffTheta := 1500, blowerStartTime := 3000, inverterRetardMax := 4500, ratedRimForce := 1500, vRef := 1850,
        vOv := 2050, ovHysteresis := 50, ovPersist := 50, ovLatch := true, vUv := 1400, vMin := 1100, kv := 32,
        retardOvCap := 500 }
    descent := { rollingResistance := 20, descentMargin := 90, overspeedMargin := 30 }
    steer :=
      { demandSource := .slate, handwheelRatio := 60, maxLock := 3800,
        maxAngleTable := [⟨0, 3800⟩, ⟨100, 3800⟩, ⟨200, 2500⟩, ⟨300, 1500⟩, ⟨450, 800⟩, ⟨650, 500⟩],
        rateTable := [⟨0, 3000⟩, ⟨100, 3000⟩, ⟨200, 2400⟩, ⟨300, 1800⟩, ⟨450, 1200⟩, ⟨650, 800⟩],
        reserveRate := 1000, ks := 24, trackErrorLimit := 400, trackGain := 95,
        emptyCurve := [⟨0, 600⟩, ⟨300, 560⟩, ⟨600, 480⟩, ⟨1000, 380⟩, ⟨1500, 290⟩, ⟨2000, 230⟩, ⟨2800, 170⟩, ⟨3800, 120⟩],
        loadedCurve := [⟨0, 420⟩, ⟨300, 400⟩, ⟨600, 340⟩, ⟨1000, 270⟩, ⟨1500, 200⟩, ⟨2000, 150⟩, ⟨2800, 110⟩, ⟨3800, 80⟩],
        supplyLow := 12000, supplyRecover := 15000, accumulatorMin := 9000, pressurePerStroke := 800 }
    load :=
      { emptyMass := 2500, ratedPayload := 3500, areaFL := 1000, areaFR := 1000, areaRL := 1500, areaRR := 1500,
        emptyBand := 200, class1Threshold := 1100, class2Threshold := 1200, class1Speed := 400, class2Speed := 200,
        class2PropelCap := 600, continuousRating := 700, peakSeconds := 60, motorWarn := 1400, motorRetardWarn := 1600,
        motorTrip := 1800 }
    link :=
      { pollList := [.inverterL, .inverterR, .chopper, .inverterL, .inverterR, .valve], replyTimer := 100, speedPerRpm := 355 }
    speed := { kFrontL := 3600000, kFrontR := 3600000, kRearL := 3600000, kRearR := 3600000 }
    supervision := { longWindow := 3000, wMin := 10, wMax := 200, fallbackDecel := 3 }
    scan := { strobePeriod := 100, entries := defaultScanList, limits := defaultLimits }
    levels := [125, 250, 375, 500, 625, 750, 875, 1000, 1000, 750, 500, 250, 0, 0, 0, 0]
    trace := { enable := false, divider := 1, selections := [] } }

/-! ## The fields of the block and their ranges -/

/-- How a field's words are read: one word unsigned, one word in two's complement, or two words, low word first (R191). -/
inductive FieldForm where
  | unsigned | signed | wide
  deriving DecidableEq, Repr

/-- R191: "Fields that a count leaves unused … are not checked": the field is used always, or when its place in the list is
below the count read at the given word offset. -/
inductive FieldUse where
  | always
  | below (countOffset place : Nat)
  deriving DecidableEq, Repr

/-- The values a field may hold: a range, or one of a few (Averaging, R152). -/
inductive FieldRange where
  | between (lo hi : Int)
  | oneOf (values : List Int)
  deriving DecidableEq, Repr

/-- One field of the Setting Block, at its word offset from 0x0800. -/
structure Field where
  offset : Nat
  form : FieldForm
  range : FieldRange
  use : FieldUse
  deriving DecidableEq, Repr

/-- The words of the Setting Block, by word offset from 0x0800. -/
structure Block where
  words : List Word
  deriving DecidableEq, Repr

/-- One word of the block. -/
def Block.word (b : Block) (offset : Nat) : Word := b.words.getD offset 0

/-- The value of a field in the block. -/
def Block.value (b : Block) (offset : Nat) : FieldForm → Int
  | .unsigned => (b.word offset).toNat
  | .signed => (b.word offset).toInt
  | .wide => joinWords (b.word offset) (b.word (offset + 1))

/-- An unsigned one-word field. -/
def Block.int (b : Block) (offset : Nat) : Int := b.value offset .unsigned

/-- An unsigned one-word field as a natural number. -/
def Block.nat (b : Block) (offset : Nat) : Nat := (b.word offset).toNat

/-- A signed one-word field. -/
def Block.signed (b : Block) (offset : Nat) : Int := b.value offset .signed

/-- R191: enumerations NO 0 and YES 1. -/
def Block.flag (b : Block) (offset : Nat) : Bool := b.nat offset == 1

/-- Whether a value lies in a field's range. -/
def FieldRange.holds (x : Int) : FieldRange → Bool
  | .between lo hi => lo ≤ x && x ≤ hi
  | .oneOf values => values.contains x

/-- Whether a field is used, as the counts in the block stand. -/
def FieldUse.holds (b : Block) : FieldUse → Bool
  | .always => true
  | .below countOffset place => place < b.nat countOffset

/-- Whether a field passes its range check. -/
def Field.passes (b : Block) (f : Field) : Bool := !f.use.holds b || f.range.holds (b.value f.offset f.form)

/-- A field in unsigned words that is always used. -/
def plain (offset : Nat) (lo hi : Int) : Field := ⟨offset, .unsigned, .between lo hi, .always⟩

/-- A field in two's complement that is always used. -/
def plainSigned (offset : Nat) (lo hi : Int) : Field := ⟨offset, .signed, .between lo hi, .always⟩

/-- `n` breakpoints from a word offset: coordinate, then value (R191). -/
def breakpointFields (offset n : Nat) (xHi yLo yHi : Int) : List Field :=
  (List.range n).flatMap fun k => [plain (offset + 2 * k) 0 xHi, plain (offset + 2 * k + 1) yLo yHi]

/-- R71: the ten fields of a bank. -/
def bankFields (offset : Nat) : List Field :=
  [plain offset 0 1, plain (offset + 1) 500 4000, plain (offset + 2) 300 5000, plain (offset + 3) 2000 9000,
   plain (offset + 4) 2500 10000, plain (offset + 5) 1000 8000, plain (offset + 6) 1000 8000, plain (offset + 7) 1 200,
   plain (offset + 8) 1 200, plain (offset + 9) 0 1000]

/-- R16, R43, R71, R81: ceilings, governing, grids and descent. -/
def driveFields : List Field :=
  [plain 0x00 50 650, plain 0x01 20 200, plain 0x02 100 1000, plain 0x03 100 1000,
   plain 0x10 1 5, plain 0x11 0 200, plain 0x12 0 200, plain 0x13 50 400, plain 0x14 100 1000, plain 0x15 1 500,
   plain 0x16 1 200, plain 0x17 5 200] ++
  bankFields 0x20 ++ bankFields 0x2A ++
  [plain 0x34 500 1000, plain 0x35 10 3600, plainSigned 0x36 (-400) 8000, plain 0x37 0 6000, plain 0x38 500 10000,
   plain 0x39 500 9000, plain 0x3A 200 3000, plain 0x3B 1000 2500, plain 0x3C 1100 2800, plain 0x3D 10 200,
   plain 0x3E 20 200, plain 0x3F 0 1, plain 0x40 800 2400, plain 0x41 500 2300, plain 0x42 1 255, plain 0x43 0 1000] ++
  [plain 0x50 0 100, plain 0x51 50 100, plain 0x52 5 200]

/-- R105: steering; the tables stand at 0x63, 0x6F, 0x7F and 0x8F. -/
def steerFields : List Field :=
  [plain 0x60 0 1, plain 0x61 1 200, plain 0x62 1000 4200] ++
  breakpointFields 0x63 6 900 0 4200 ++ breakpointFields 0x6F 6 900 200 6000 ++
  [plain 0x7B 200 6000, plain 0x7C 1 255, plain 0x7D 50 2000, plain 0x7E 0 200] ++
  breakpointFields 0x7F 8 4200 0 900 ++ breakpointFields 0x8F 8 4200 0 900 ++
  [plain 0x9F 2000 25000, plain 0xA0 2000 30000, plain 0xA1 2000 20000, plain 0xA2 100 5000]

/-- R125: load and motors. -/
def loadFields : List Field :=
  [plain 0xB0 1000 4000, plain 0xB1 500 5000, plain 0xB2 100 5000, plain 0xB3 100 5000, plain 0xB4 100 5000,
   plain 0xB5 100 5000, plain 0xB6 50 1000, plain 0xB7 1000 1500, plain 0xB8 1000 2000, plain 0xB9 50 650, plain 0xBA 0 650,
   plain 0xBB 0 1000, plain 0xBC 300 950, plain 0xBD 1 600, plain 0xBE 0 2500, plain 0xBF 0 2500, plain 0xC0 0 2500]

/-- R149, R161, R171: link, speed timers and supervision. -/
def linkFields : List Field :=
  [plain 0xD0 1 12] ++
  (List.range 12).map (fun k => ⟨0xD1 + k, .unsigned, .between 1 4, .below 0xD0 k⟩) ++
  [plain 0xDD 50 500, plain 0xDE 50 2000] ++
  (List.range 4).map (fun k => ⟨0xE0 + 2 * k, .wide, .between 100000 20000000, .always⟩) ++
  [plain 0xF0 200 10000, plain 0xF1 1 1000, plain 0xF2 5 5000, plain 0xF3 1 50]

/-- R152, R157: one Scan List entry's six fields. -/
def scanEntryFields (k : Nat) : List Field :=
  let at_ := 0x102 + 6 * k
  let use := FieldUse.below 0x101 k
  [⟨at_, .unsigned, .between 0 15, use⟩, ⟨at_ + 1, .unsigned, .between 0 3, use⟩, ⟨at_ + 2, .unsigned, .between 1 14, use⟩,
   ⟨at_ + 3, .unsigned, .oneOf [1, 2, 4, 8, 16, 32, 64], use⟩, ⟨at_ + 4, .signed, .between (-32768) 32767, use⟩,
   ⟨at_ + 5, .signed, .between (-32768) 32767, use⟩]

/-- R157: scan. The limits stand from 0x192, Low then High for each role. -/
def scanFields : List Field :=
  [plain 0x100 50 5000, plain 0x101 1 24] ++ (List.range 24).flatMap scanEntryFields ++
  (List.range 28).map (fun k => plainSigned (0x192 + k) (-32768) 32767)

/-- R183, R196: the Level Table and trace. -/
def traceFields : List Field :=
  (List.range 16).map (fun k => plain (0x1B0 + k) 0 1000) ++
  [plain 0x1C0 0 1, plain 0x1C1 1 255, plain 0x1C2 0 8] ++
  (List.range 8).map (fun k => ⟨0x1C3 + k, .unsigned, .between 1 32, .below 0x1C2 k⟩)

/-- R191: every field of the block, in ascending word offset. -/
def settingFields : List Field :=
  driveFields ++ steerFields ++ loadFields ++ linkFields ++ scanFields ++ traceFields

/-! ## The cross-field comparisons -/

/-- A comparison: the word offset of the field it names second, and whether it holds. -/
structure Comparison where
  second : Nat
  holds : Bool
  deriving DecidableEq, Repr

/-- R105: "each breakpoint's speed, or angle for the curve tables, is above that of the breakpoint before it": the field
named second is the breakpoint before (assumption log 16). -/
def risingTable (b : Block) (offset n : Nat) : List Comparison :=
  (List.range (n - 1)).map fun k =>
    ⟨offset + 2 * k, b.int (offset + 2 * k) < b.int (offset + 2 * (k + 1))⟩

/-- The comparisons of R71, R105, R125, R157 and R171, in ascending word offset of the field named second (R191). -/
def settingComparisons (b : Block) : List Comparison :=
  [⟨0x23, b.int 0x25 < b.int 0x23⟩, ⟨0x24, b.int 0x23 < b.int 0x24⟩,
   ⟨0x2D, b.int 0x2F < b.int 0x2D⟩, ⟨0x2E, b.int 0x2D < b.int 0x2E⟩,
   ⟨0x3B, b.int 0x40 < b.int 0x3B⟩, ⟨0x3C, b.int 0x3B < b.int 0x3C - b.int 0x3D⟩, ⟨0x40, b.int 0x41 < b.int 0x40⟩] ++
  (List.range 6).map (fun k => ⟨0x62, b.int (0x64 + 2 * k) ≤ b.int 0x62⟩) ++
  risingTable b 0x63 6 ++ risingTable b 0x6F 6 ++ risingTable b 0x7F 8 ++ risingTable b 0x8F 8 ++
  [⟨0xA0, b.int 0x9F < b.int 0xA0⟩, ⟨0xB8, b.int 0xB7 < b.int 0xB8⟩, ⟨0xB9, b.int 0xBA ≤ b.int 0xB9⟩,
   ⟨0xBF, b.int 0xBE ≤ b.int 0xBF⟩, ⟨0xC0, b.int 0xBF < b.int 0xC0⟩,
   ⟨0xF0, b.int 0xF2 < b.int 0xF0⟩, ⟨0xF2, b.int 0xF1 < b.int 0xF2⟩] ++
  (List.range 14).map (fun k => ⟨0x193 + 2 * k, b.signed (0x192 + 2 * k) < b.signed (0x193 + 2 * k)⟩)

/-- R191: the word offset of the first failure: the first field out of its range, else the first comparison that fails. -/
def settingFailure (b : Block) : Option Nat :=
  match settingFields.find? (fun f => !f.passes b) with
  | some f => some f.offset
  | none => ((settingComparisons b).find? (fun c => !c.holds)).map (fun c => c.second)

/-! ## The block as settings -/

/-- R191: `n` breakpoints from a word offset. -/
def readTable (b : Block) (offset n : Nat) : List Breakpoint :=
  (List.range n).map fun k => ⟨b.int (offset + 2 * k), b.int (offset + 2 * k + 1)⟩

/-- R71: a bank's settings. -/
def readBank (b : Block) (offset : Nat) : BankSettings :=
  { enabled := b.flag offset, ratedPower := b.int (offset + 1), resistance := b.int (offset + 2),
    warnTheta := b.int (offset + 3), tripTheta := b.int (offset + 4), restartTheta := b.int (offset + 5),
    airTrip := b.int (offset + 6), heatingGain := b.int (offset + 7), coolingGain := b.int (offset + 8),
    noBlower := b.int (offset + 9) }

/-- R149: a station by its number. -/
def stationOfNumber (n : Nat) : StationId :=
  if n = 1 then .inverterL else if n = 2 then .inverterR else if n = 3 then .chopper else .valve

/-- R152: a Scan List entry. -/
def readEntry (b : Block) (k : Nat) : ScanEntry :=
  let at_ := 0x102 + 6 * k
  { input := b.nat at_, range := b.nat (at_ + 1), role := (Role.ofNumber (b.nat (at_ + 2))).getD .dcLinkVoltage,
    averaging := b.nat (at_ + 3), offset := b.signed (at_ + 4), scale := b.signed (at_ + 5) }

/-- R191: the settings that a checked block holds. -/
def readSettings (b : Block) : Settings :=
  { ceilings := { forwardSpeed := b.int 0x00, reverseSpeed := b.int 0x01, propel := b.int 0x02, retard := b.int 0x03 }
    governing :=
      { framePeriod := b.nat 0x10, kp := b.int 0x11, ki := b.int 0x12, slipThreshold := b.int 0x13, cMin := b.int 0x14,
        cutStep := b.int 0x15, recoverStep := b.int 0x16, ramp := b.int 0x17 }
    grids :=
      { bankA := readBank b 0x20, bankB := readBank b 0x2A, altitudeCooling := b.int 0x34, lockoutWindow := b.nat 0x35,
        startTemperature := b.signed 0x36, blowerOffTheta := b.int 0x37, blowerStartTime := b.nat 0x38,
        inverterRetardMax := b.int 0x39, ratedRimForce := b.int 0x3A, vRef := b.int 0x3B, vOv := b.int 0x3C,
        ovHysteresis := b.int 0x3D, ovPersist := b.nat 0x3E, ovLatch := b.flag 0x3F, vUv := b.int 0x40,
        vMin := b.int 0x41, kv := b.int 0x42, retardOvCap := b.int 0x43 }
    descent := { rollingResistance := b.int 0x50, descentMargin := b.int 0x51, overspeedMargin := b.int 0x52 }
    steer :=
      { demandSource := if b.flag 0x60 then .handwheel else .slate, handwheelRatio := b.int 0x61, maxLock := b.int 0x62,
        maxAngleTable := readTable b 0x63 6, rateTable := readTable b 0x6F 6, reserveRate := b.int 0x7B, ks := b.int 0x7C,
        trackErrorLimit := b.int 0x7D, trackGain := b.int 0x7E, emptyCurve := readTable b 0x7F 8,
        loadedCurve := readTable b 0x8F 8, supplyLow := b.int 0x9F, supplyRecover := b.int 0xA0,
        accumulatorMin := b.int 0xA1, pressurePerStroke := b.int 0xA2 }
    load :=
      { emptyMass := b.int 0xB0, ratedPayload := b.int 0xB1, areaFL := b.int 0xB2, areaFR := b.int 0xB3, areaRL := b.int 0xB4,
        areaRR := b.int 0xB5, emptyBand := b.int 0xB6, class1Threshold := b.int 0xB7, class2Threshold := b.int 0xB8,
        class1Speed := b.int 0xB9, class2Speed := b.int 0xBA, class2PropelCap := b.int 0xBB, continuousRating := b.int 0xBC,
        peakSeconds := b.int 0xBD, motorWarn := b.int 0xBE, motorRetardWarn := b.int 0xBF, motorTrip := b.int 0xC0 }
    link :=
      { pollList := (List.range (b.nat 0xD0)).map (fun k => stationOfNumber (b.nat (0xD1 + k))), replyTimer := b.nat 0xDD,
        speedPerRpm := b.int 0xDE }
    speed :=
      { kFrontL := joinWords (b.word 0xE0) (b.word 0xE1), kFrontR := joinWords (b.word 0xE2) (b.word 0xE3),
        kRearL := joinWords (b.word 0xE4) (b.word 0xE5), kRearR := joinWords (b.word 0xE6) (b.word 0xE7) }
    supervision := { longWindow := b.nat 0xF0, wMin := b.nat 0xF1, wMax := b.nat 0xF2, fallbackDecel := b.int 0xF3 }
    scan :=
      { strobePeriod := b.nat 0x100, entries := (List.range (b.nat 0x101)).map (readEntry b),
        limits := (List.range 14).map (fun k => ⟨b.signed (0x192 + 2 * k), b.signed (0x193 + 2 * k)⟩) }
    levels := (List.range 16).map (fun k => b.int (0x1B0 + k))
    trace :=
      { enable := b.flag 0x1C0, divider := b.nat 0x1C1,
        selections := (List.range (b.nat 0x1C2)).map (fun k => b.nat (0x1C3 + k)) } }

/-- R191, R157: the active settings, with the chapters' defaults before there are any. -/
def State.active (s : State) : Settings := s.settings.getD defaultSettings

/-- R6, R71, R81, R171: the settings that the blocks not restarted by APPLY SETTINGS work with. -/
def State.inForce (s : State) : Settings := s.settled.getD defaultSettings

end Sys2Proof.Machine
end

