-- ==== Sys2Proof/Machine/Ops.lean ====
section
/-! DEFINITION. The shared operations: the Exchange RAM, the time stamp, the Limit Table, the Fault Table with the trip it may
cause, the Drive Mode's changes, the HALT request and the completion of an order. -/

namespace Sys2Proof.Machine

/-! ## The Exchange RAM

The RAM is the list of its words that are not 0, addresses strictly rising, all below 16,384. An unlisted word reads 0
(R184: a power-on reset clears every word to 0). -/

/-- R184: one word of the RAM. -/
def Ram.read : List RamCell → Nat → Word
  | [], _ => 0
  | (k, w) :: rest, a => if k = a then w else Ram.read rest a

/-- The cells of a run of words from an address, without those that hold 0. -/
def Ram.cells : Nat → List Word → List RamCell
  | _, [] => []
  | a, w :: rest => if w = 0 then Ram.cells (a + 1) rest else (a, w) :: Ram.cells (a + 1) rest

/-- A write of a run of words from an address; a word past the top of the RAM does not exist and is not written. -/
def Ram.writeBlock (ram : List RamCell) (a : Nat) (ws : List Word) : List RamCell :=
  ram.filter (fun c => c.1 < a) ++ (Ram.cells a ws).filter (fun c => c.1 < ramWords) ++
    ram.filter (fun c => a + ws.length ≤ c.1)

/-- Whether every address of the list lies above `a`, and the rest rises likewise. -/
def Ram.rises : Option Nat → List RamCell → Bool
  | _, [] => true
  | none, c :: rest => Ram.rises (some c.1) rest
  | some a, c :: rest => a < c.1 && Ram.rises (some c.1) rest

/-- The canonical form: addresses strictly rising, all in the RAM, and no word that reads as an unlisted one. -/
def Ram.wf (ram : List RamCell) : Bool :=
  Ram.rises none ram && ram.all (fun c => c.1 < ramWords && c.2 != 0)

/-- The word at an address. -/
def State.readWord (s : State) (a : Nat) : Word := Ram.read s.ram a

/-- `n` words from an address. -/
def State.readWords (s : State) (a n : Nat) : List Word :=
  let cells := s.ram.filter (fun c => a ≤ c.1 && c.1 < a + n)
  (List.range n).map (fun k => Ram.read cells (a + k))

/-- The part's write of a run of words. -/
def State.writeWords (s : State) (a : Nat) (ws : List Word) : State := s.setRam (Ram.writeBlock s.ram a ws)

/-- R184: the truck controller's write of one word over the bus. The table has no row for it: the outside does it between
commands (assumption log 4). It changes that word and no other state of the part. -/
def State.controllerWrite (s : State) (a : BitVec 14) (w : Word) : State := s.writeWords a.toNat [w]

/-- R184: what a bus read of the register window returns. -/
def State.readRegister (s : State) (offset : BitVec 3) : Word :=
  match offset.toNat with
  | 0 => 0x5644
  | 1 => 0x0701
  | 2 => s.window.runctl
  | 3 => s.window.attn &&& causeBits
  | 4 => s.window.attnen &&& causeBits
  | _ => 0

/-! ## Time -/

/-- R1: the present time stamp. -/
def State.now (s : State) : Nat := s.us / 1000 % stampRange

/-- The free-value counter moves on by one, so that the next values drawn are fresh. -/
def State.drawFree (s : State) : State := s.setFreeCount (s.freeCount + 1)

/-- The deadline a period of `us` microseconds from now. -/
def State.after (s : State) (us : Nat) : Option Nat := some (s.us + us)

/-- R3: a periodic timer restarts at its expiry; a stopped one stays stopped. -/
def State.again (s : State) (timer : Option Nat) (us : Nat) : Option Nat := timer.map (fun _ => s.us + us)

/-! ## The Limit Table (R15) -/

/-- R15: an owner's write of a pair (Active, Value); none for a write that gives no Value. -/
def LimitRow.write (r : LimitRow) (now : Nat) (q : Quantity) (active : Bool) (value : Option Int) : LimitRow :=
  let v := match value with
    | none => r.value
    | some x => clamp 0 q.top x
  if active = r.active ∧ v = r.value then r
  else { active := active, value := v, since := now, changes := saturate 65535 (r.changes + 1) }

/-- The record of a row. -/
def State.row (s : State) (r : RowId) : LimitRow := s.rows[r.index]

/-- R15: an owner's write of its row; "While Mode is UNCONFIGURED the table takes no owner writes". -/
def State.writeRow (s : State) (r : RowId) (active : Bool) (value : Option Int) : State :=
  if s.drive.mode = .unconfigured then s
  else s.setRows (s.rows.set r.index ((s.row r).write s.now r.quantity active value))

/-- R17: row 2 from the Accepted Slate as it stands. -/
def State.writeZoneRow (s : State) : State :=
  if s.exchange.slate.zoneSpeed = 0 then s.writeRow .zoneSpeed false none
  else s.writeRow .zoneSpeed true (some s.exchange.slate.zoneSpeed)

/-! ## The Drive Mode -/

/-- R172: the monitor publishes its record. -/
def State.publishSupervision (s : State) : State :=
  s.setPublished { s.published with
    supervision := s.supervision, windowTime := elapsed s.now s.supervision.windowStart }

/-- R169: on leaving FALLBACK row 7 goes inactive, the decay timer stops and Decay Running clears. -/
def State.stopDecay (s : State) : State :=
  let s := s.writeRow .fallbackSpeed false none
  let s := s.setSupervision { s.supervision with decayRunning := false }
  let s := s.setTimers { s.timers with decay := none }
  s.publishSupervision

/-- R4: a change of Mode writes Since and sets MODE; R169 on the way out of FALLBACK; R17 on the way out of FALLBACK and of
UNCONFIGURED. Nothing happens where Mode stays as it was. -/
def State.changeMode (s : State) (m : Mode) : State :=
  let old := s.drive.mode
  if old = m then s
  else
    let s := (s.setDrive { s.drive with mode := m, since := s.now }).raiseCause .mode
    let s := if old = .fallback then s.stopDecay else s
    if old = .fallback ∨ old = .unconfigured then s.writeZoneRow else s

/-- R38: the two outgoing torque records. -/
def State.writeTorqueRecords (s : State) (left right : Int) (enable : Bool) : State :=
  let reverse : Bool := s.drive.travel = .reverse
  s.setLink { s.link with
    outgoing := { s.link.outgoing with
      left := { torque := left, enable := enable, reverse := reverse }
      right := { torque := right, enable := enable, reverse := reverse } } }

/-- R37: entry to DISARMED, SELF-LOAD or TRIPPED: commands and Q_old 0, integrator 0, corrections 1000, gate clear, and
torque 0 with ENABLE clear written at once. -/
def State.zeroTorque (s : State) : State :=
  (s.setDrive { s.drive with integrator := 0, corrL := 1000, corrR := 1000, qL := 0, qR := 0, gate := false }).writeTorqueRecords
    0 0 false

/-- R8, R12, R13, R6: entry to DISARMED. -/
def State.enterDisarmed (s : State) : State := (s.changeMode .disarmed).zeroTorque

/-- R13: entry to SELF-LOAD. -/
def State.enterSelfLoad (s : State) : State := (s.changeMode .selfLoad).zeroTorque

/-- R7, R37: entry to ARMED by ARM DRIVE; the records are written at the next frame. -/
def State.enterArmed (s : State) : State :=
  let s := s.changeMode .armed
  s.setDrive { s.drive with integrator := 0, corrL := 1000, corrR := 1000, qL := 0, qR := 0, gate := false }

/-- R10, R37: FALLBACK to ARMED: all kept, and the propel gate set. -/
def State.returnToArmed (s : State) : State :=
  let s := s.changeMode .armed
  s.setDrive { s.drive with gate := true }

/-- R144: a request sets HALT Pending while the transmitter is ENABLED; with a HALT on the line it is merged. -/
def State.requestHalt (s : State) : State :=
  if s.link.enabled && !s.link.halting then s.setLink { s.link with haltPending := true } else s

/-- R11: a trip cause raised in ARMED or FALLBACK takes Mode to TRIPPED: the commands and the records are zeroed first, then
the HALT is asked for. In every other mode nothing but the latching happens. -/
def State.trip (s : State) (c : FaultCode) : State :=
  if s.drive.mode = .armed ∨ s.drive.mode = .fallback then
    let s := (s.changeMode .tripped).zeroTorque
    (s.setDrive { s.drive with tripCause := some c }).requestHalt
  else s

/-! ## The Fault Table (R194) -/

/-- The record of a fault code. -/
def State.fault (s : State) (c : FaultCode) : FaultRecord := s.faults[c.index]

/-- Words 1 to 7 of a record. -/
def faultWords (r : FaultRecord) : List Word :=
  flagWord [r.active, r.latched] :: BitVec.ofNat 16 r.count :: (twoWords r.firstTime ++ twoWords r.lastTime) ++
    [BitVec.ofNat 16 r.detail]

/-- Stores a record and writes words 1 to 7 of it into the RAM; the Code word is written at a power-on reset only. -/
def State.putFault (s : State) (c : FaultCode) (r : FaultRecord) : State :=
  (s.setFaults (s.faults.set c.index r)).writeWords (0x0300 + 8 * c.index + 1) (faultWords r)

/-- R194: a raising: Active and Latched set, Count, the times and Detail. -/
def FaultRecord.raised (r : FaultRecord) (now detail : Nat) : FaultRecord :=
  { active := true, latched := true, count := saturate 255 (r.count + 1),
    firstTime := if r.count = 0 then now else r.firstTime, lastTime := now, detail := detail }

/-- R194: a report of a condition present. -/
def State.reportPresent (s : State) (c : FaultCode) (detail : Nat := 0) : State :=
  let r := s.fault c
  if r.active then
    if c.carriesDetail then s.putFault c { r with detail := detail } else s
  else
    let s := (s.putFault c (r.raised s.now detail)).raiseCause .fault
    if c.isTripCause then s.trip c else s

/-- R194: a report of a condition absent. -/
def State.reportAbsent (s : State) (c : FaultCode) : State :=
  let r := s.fault c
  if r.active then s.putFault c { r with active := false } else s

/-- A condition reported as it is. -/
def State.report (s : State) (c : FaultCode) (present : Bool) (detail : Nat := 0) : State :=
  if present then s.reportPresent c detail else s.reportAbsent c

/-- A condition "reported present and then absent, so its record is Latched with Active clear" (R57, R94, R141, R166). -/
def State.latchFault (s : State) (c : FaultCode) (detail : Nat := 0) : State :=
  (s.reportPresent c detail).reportAbsent c

/-- R11, R12: whether any trip cause is Latched. -/
def State.tripLatched (s : State) : Bool := FaultCode.all.any (fun c => c.isTripCause && (s.fault c).latched)

/-! ## The Order Board (R189, R190) -/

/-- R189: the result codes. -/
inductive Result where
  | done | unknownOrder | wrongMode | badArgument | moving | notParked | locked | notReady | aborted | causeActive
  deriving DecidableEq, Repr

/-- R189: a result's code. -/
def Result.code : Result → Word
  | .done => 0
  | .unknownOrder => 1
  | .wrongMode => 2
  | .badArgument => 3
  | .moving => 4
  | .notParked => 5
  | .locked => 6
  | .notReady => 7
  | .aborted => 8
  | .causeActive => 9

/-- R189: the first word of a slot. -/
def slotBase (slot : Fin 16) : Nat := 0x0040 + 16 * slot

/-- R189: "Result Detail words not given by an order's rule are written 0". -/
def detailWords (given : List Word) : List Word := (given ++ [0, 0, 0, 0]).take 4

/-- R190: a completion writes Result Code, Result Detail, Completion Time and then DONE, and sets ORDER DONE. -/
def State.complete (s : State) (slot : Fin 16) (r : Result) (detail : List Word := []) : State :=
  let s := s.writeWords (slotBase slot + 9) (r.code :: detailWords detail ++ twoWords s.now)
  let s := s.writeWords (slotBase slot) [3]
  s.raiseCause .orderDone

/-- Argument `k` of an order, from the Order Desk's copy of words 1 to 8 (R190). -/
def HeldOrder.argument (o : HeldOrder) (k : Nat) : Word := o.words.getD (2 + k) 0

/-- R189: the order kind in a slot. -/
def State.orderKind (s : State) (slot : Fin 16) : Word := s.readWord (slotBase slot + 2)

/-- R189: whether the slot is POSTED. -/
def State.isPosted (s : State) (slot : Fin 16) : Bool := s.readWord (slotBase slot) == 1

/-- R190: the taking of an order: words 1 to 8 are copied and TAKEN is written. -/
def State.takeOrder (s : State) (slot : Fin 16) : State × HeldOrder :=
  (s.writeWords (slotBase slot) [2], { slot := slot, words := s.readWords (slotBase slot + 1) 8 })

/-! ## Readings the blocks share -/

/-- The Sample Table entry of a role (R150). -/
def State.sample (s : State) (r : Role) : Sample := s.scan.table[r.index]

/-- Whether a role is VALID. -/
def State.roleValid (s : State) (r : Role) : Bool := (s.sample r).state = .valid

/-- A role's Value. -/
def State.roleValue (s : State) (r : Role) : Int := (s.sample r).value

/-- The record of a station (R128). -/
def State.station (s : State) (n : StationId) : Station := s.link.stations[n.index]

/-- Whether a station is PRESENT. -/
def State.present (s : State) (n : StationId) : Bool := (s.station n).state = .present

/-- A station's record replaced. -/
def State.setStation (s : State) (n : StationId) (x : Station) : State :=
  s.setLink { s.link with stations := s.link.stations.set n.index x }

/-- The last good CHOPPER REPLY; with none, every flag is clear (R48: station 3 is then not PRESENT). -/
def State.chopperReply (s : State) : ChopperReply :=
  match (s.station .chopper).lastGood with
  | some (.chopper r) => r
  | _ => { blowerA := false, blowerB := false, faultA := false, faultB := false, ready := false }

/-- The last good VALVE REPLY; with none, every flag is clear and the spool position reads 0 (assumption log 52). -/
def State.valveReply (s : State) : ValveReply :=
  match (s.station .valve).lastGood with
  | some (.valve r) => r
  | _ => { spool := 0, fault := false, pump := false }

/-- The last good TORQUE REPLY of a station; with none, torque 0 and every flag clear (assumption log 52). -/
def State.torqueReply (s : State) (n : StationId) : TorqueReply :=
  match (s.station n).lastGood with
  | some (.torque r) => r
  | _ => { torque := 0, rpm := 0, winding := 0, fault := false, derated := false, ready := false }

/-- A channel's record (R158). -/
def State.channel (s : State) (c : Channel) : ChannelRecord := s.speed.channels[c.index]

/-- The ground speed v as the Speed Timers last published it (R160). -/
def State.groundSpeed (s : State) : Int := s.speed.v

/-- A bank's record. -/
def State.bank (s : State) : BankId → Bank
  | .a => s.grid.bankA
  | .b => s.grid.bankB

/-- A bank's record replaced. -/
def State.setBank (s : State) (k : BankId) (x : Bank) : State :=
  match k with
  | .a => s.setGrid { s.grid with bankA := x }
  | .b => s.setGrid { s.grid with bankB := x }

/-- A bank's settings, as the Grid Manager works with them. -/
def State.bankSettings (s : State) : BankId → BankSettings
  | .a => s.inForce.grids.bankA
  | .b => s.inForce.grids.bankB

/-- Whether a bank is READY or DERATED, so that it can take duty. -/
def Bank.available (b : Bank) : Bool := b.stage = .ready || b.stage = .derated

end Sys2Proof.Machine
end

