-- ==== Sys2Proof/Machine/Clock.lean ====
section
/-! DEFINITION. What a microsecond brings where no command waits: the timers whose deadline has come give their commands
(R3; assumption log 1 and 12). -/

namespace Sys2Proof.Machine

/-- A command, where its timer's deadline is now. -/
def State.due (s : State) (timer : Option Nat) (c : Instr) : List Instr := if timer = some s.us then [c] else []

/-- R133: while the queue is not empty and the assembler is not held, a drain event falls every 1 µs. -/
def State.dueDrain (s : State) : List Instr :=
  if s.link.queue.isEmpty || s.link.held then [] else [.assemblerDrain]

/-- R3, R133, R145, R152, R159, R165, R168, R175, R176, R188, R189: the commands of the timers that expire now. The manual gives
no order among events that come together; this one is the model's (assumption log 12). -/
def State.dueCommands (s : State) : List Instr :=
  let t := s.timers
  s.due t.haltIdle .haltEnd ++ s.due t.hold .assemblerHoldEnd ++ s.dueDrain ++ s.due t.reply .replyTimerExpiry ++
  s.due t.silence[Channel.frontL.index] (.silenceEvent .frontL) ++
  s.due t.silence[Channel.frontR.index] (.silenceEvent .frontR) ++
  s.due t.silence[Channel.rearL.index] (.silenceEvent .rearL) ++
  s.due t.silence[Channel.rearR.index] (.silenceEvent .rearR) ++
  s.due t.strobe .strobe ++ s.due t.pickUp .slatePickUp ++ s.due t.longWindow .longWindowExpiry ++
  s.due t.wMin .wMinExpiry ++ s.due t.wMax .wMaxExpiry ++ s.due t.decay .fallbackDecayStep ++
  s.due t.phase .phaseEnd ++ s.due t.step .stepEnd ++ s.due t.dcLink .dcLinkFrame ++ s.due t.thermal .thermalFrame ++
  s.due t.steering .steeringFrame ++ s.due t.sweep .boardSweep ++ s.due t.governor .governorFrame

/-- One microsecond passes with no command waiting. -/
def State.tick (s : State) : State :=
  let s := s.setUs (s.us + 1)
  s.setPending s.dueCommands

end Sys2Proof.Machine
end

