-- ==== Sys2Proof/Machine/SelfLoadTest.lean ====
section
/-! DEFINITION. The Self-Load Pattern Generator: steps, phases, the Step Result list, the end of the pattern and aborts
(R173 to R183, R198). -/

namespace Sys2Proof.Machine

/-- R183: the generator publishes its items. -/
def State.publishSelfLoad (s : State) : State :=
  s.setPublished { s.published with selfLoad := s.selfLoad, phaseTime := elapsed s.now s.selfLoad.phaseStart }

/-- R198: the header's words. -/
def headerWords (h : ResultHeader) : List Word :=
  [BitVec.ofNat 16 h.testState.code, BitVec.ofNat 16 (optionCode AbortCause.code h.abortCause), BitVec.ofNat 16 h.stepsRun,
   BitVec.ofNat 16 h.recorded, BitVec.ofNat 16 h.unrecorded] ++ List.replicate 11 0

/-- R178, R198: the header replaced, in the generator and in the Exchange RAM. A change of any field writes all sixteen words,
not only that field's (the model's choice, assumption log 78). -/
def State.putHeader (s : State) (h : ResultHeader) : State :=
  (s.setSelfLoad { s.selfLoad with header := h }).writeWords 0x0600 (headerWords h)

/-! ## Steps (R176, R178) -/

/-- R176: the level of body step `i`. -/
def Pattern.level (p : Pattern) (levels : List Int) (i : Nat) : Int :=
  match p.shape with
  | .stair => levels.getD i 0
  | .cycle => levels.getD (i % p.count) 0

/-- R176: the length of body step `i`, in ms. -/
def Pattern.stepLength (p : Pattern) (bodyLength i : Nat) : Nat :=
  match p.shape with
  | .stair => if i + 1 < p.count then p.stepDuration else bodyLength - (p.count - 1) * p.stepDuration
  | .cycle => min p.stepDuration (bodyLength - i * p.stepDuration)

/-- R176: whether body step `i` is the last, which ends with BODY. -/
def Pattern.isLastStep (p : Pattern) (bodyLength i : Nat) : Bool :=
  match p.shape with
  | .stair => p.count ≤ i + 1
  | .cycle => bodyLength ≤ (i + 1) * p.stepDuration

/-- R176: the start of body step `i`. A step that ends with BODY is closed by the phase's end, so its own timer stays
stopped. -/
def State.beginStep (s : State) (i : Nat) : State :=
  let g := s.selfLoad
  let len := g.pattern.stepLength g.bodyLength i
  let s := s.setSelfLoad { g with
    stepIndex := i, stepStart := s.now, stepEnd := (s.now + len) % stampRange, stepLevel := g.pattern.level s.inForce.levels i,
    sums := StepSums.empty, stepsRun := g.stepsRun + 1, stepOpen := true }
  let s := s.setTimers { s.timers with
    step := if g.pattern.isLastStep g.bodyLength i then none else s.after (1000 * len) }
  (s.putHeader { s.selfLoad.header with stepsRun := s.selfLoad.stepsRun }).publishSelfLoad

/-- R178: a step's mean over the frames that added to it; 0 where none did. -/
def stepMean (sum : Int) (count : Nat) : Int := if count = 0 then 0 else sum / count

/-- R198: the twelve words of the record of the step in progress. -/
def stepRecordWords (g : SelfLoad) (now : Nat) (cut : Bool) : List Word :=
  let v := stepMean g.sums.v g.sums.vCount
  let iA := stepMean g.sums.iA g.sums.iACount
  let iB := stepMean g.sums.iB g.sums.iBCount
  let noSamples := g.sums.vCount = 0 || g.sums.iACount = 0 || g.sums.iBCount = 0
  [wordOf g.stepIndex, wordOf g.stepLevel, wordOf (elapsed now g.stepStart), wordOf v, wordOf iA, wordOf iB,
   wordOf (v * iA / 1000), wordOf (v * iB / 1000), flagWord [cut, noSamples], 0, 0, 0]

/-- R178: the step in progress closes; `cut` is PARTIAL. At most 32 records are written. -/
def State.closeStep (s : State) (cut : Bool) : State :=
  let g := s.selfLoad
  if g.stepOpen then
    let s :=
      if g.header.recorded < 32 then
        (s.writeWords (0x0610 + 12 * g.header.recorded) (stepRecordWords g s.now cut)).putHeader
          { g.header with recorded := g.header.recorded + 1 }
      else s.putHeader { g.header with unrecorded := g.header.unrecorded + 1 }
    s.setSelfLoad { s.selfLoad with stepOpen := false }
  else s

/-! ## Phases (R175) -/

/-- R175: the start of a phase with its timer, `ms` long. Step Index and Step Level stay as they are: LEAD-OUT shows those of the last
step (the model's choice, assumption log 73). -/
def State.beginPhase (s : State) (p : Phase) (ms : Nat) : State :=
  let s := s.setSelfLoad { s.selfLoad with phase := p, phaseStart := s.now }
  s.setTimers { s.timers with phase := s.after (1000 * ms), step := none }

/-- R175, R176: the start of BODY, with step 0. -/
def State.beginBody (s : State) : State := (s.beginPhase .body s.selfLoad.bodyLength).beginStep 0

/-- R66, R72, R179, R181: at the generator's request both duties 0 are written into station 3's outgoing record at once. -/
def State.zeroDuties (s : State) : State :=
  let s := s.setSelfLoad { s.selfLoad with givenA := 0, givenB := 0 }
  s.setLink { s.link with
    outgoing := { s.link.outgoing with chopper := { s.link.outgoing.chopper with dutyA := 0, dutyB := 0 } } }

/-- The generator back in IDLE, its timers stopped. Phase Start keeps the start of the phase that ended, and the time since it is
published (the model's choice, assumption log 65). -/
def State.toIdle (s : State) : State :=
  let s := s.setSelfLoad { s.selfLoad with phase := .idle, stepOpen := false }
  s.setTimers { s.timers with phase := none, step := none }

/-- The START SELF-LOAD order held completes, and the generator's owner is free again. -/
def State.completeStart (s : State) (r : Result) (detail : List Word) : State :=
  match s.desk.start with
  | some o => (s.setDesk { s.desk with start := none }).complete o.slot r detail
  | none => s

/-- R179: the end of the pattern. -/
def State.endPattern (s : State) : State :=
  let s := s.zeroDuties
  let s := s.putHeader { s.selfLoad.header with testState := .complete }
  let h := s.selfLoad.header
  let s := s.completeStart .done [wordOf h.stepsRun, wordOf h.recorded, wordOf h.unrecorded]
  (s.toIdle.enterDisarmed).publishSelfLoad

/-- R181: an abort of a test in LEAD-IN, BODY or LEAD-OUT, up to the order's completion. With Phase IDLE it has no effect
(R180). -/
def State.abortWithoutMode (s : State) (c : AbortCause) : State :=
  let g := s.selfLoad
  if g.phase = .idle then s
  else
    let s := s.zeroDuties
    let s := if g.phase = .body then s.closeStep true else s
    let s := s.putHeader { s.selfLoad.header with testState := .aborted, abortCause := some c }
    let s := s.toIdle
    let s := s.completeStart .aborted
      [wordOf c.code, wordOf g.phase.code, if g.phase = .body then wordOf g.stepIndex else 0, wordOf g.stepsRun]
    s.publishSelfLoad

/-- R181: an abort by any cause but RESTART, after which Mode becomes DISARMED. -/
def State.abortTest (s : State) (c : AbortCause) : State :=
  if s.selfLoad.phase = .idle then s else (s.abortWithoutMode c).enterDisarmed

/-- R175: the phase timer expires. In IDLE no phase timer runs. -/
def State.endPhase (s : State) : State :=
  match s.selfLoad.phase with
  | .idle => s
  | .leadIn => s.beginBody
  | .body =>
    let s := s.closeStep false
    if s.selfLoad.pattern.leadOut = 0 then s.endPattern
    else (s.beginPhase .leadOut s.selfLoad.pattern.leadOut).publishSelfLoad
  | .leadOut => s.endPattern

/-- R176: a body step ends: its record closes and the next step begins, if BODY has one. -/
def State.endStep (s : State) : State :=
  let g := s.selfLoad
  if g.phase = .body ∧ g.stepOpen then
    let s := s.closeStep false
    if g.pattern.isLastStep g.bodyLength g.stepIndex then s else s.beginStep (g.stepIndex + 1)
  else s

/-! ## START SELF-LOAD (R174, R175) -/

/-- R174: the arguments, as the order's words hold them. -/
structure StartArguments where
  shape : Nat
  banks : Nat
  count : Nat
  stepDuration : Nat
  totalDuration : Nat
  leadIn : Nat
  leadOut : Nat
  deriving DecidableEq, Repr

/-- R174: Shape in the low byte of the first word and Banks in its high byte. -/
def HeldOrder.startArguments (o : HeldOrder) : StartArguments :=
  { shape := (o.argument 0).toNat % 256, banks := (o.argument 0).toNat / 256, count := (o.argument 1).toNat,
    stepDuration := (o.argument 2).toNat, totalDuration := (o.argument 3).toNat, leadIn := (o.argument 4).toNat,
    leadOut := (o.argument 5).toNat }

/-- R174: the pattern that arguments in range name. -/
def StartArguments.pattern (a : StartArguments) : Pattern :=
  { shape := if a.shape = 0 then .stair else .cycle, count := a.count, stepDuration := a.stepDuration,
    totalDuration := a.totalDuration, leadIn := a.leadIn, leadOut := a.leadOut,
    selectA := a.banks = 0 || a.banks = 2, selectB := a.banks = 1 || a.banks = 2 }

/-- R174: the index of the first argument out of its range. -/
def StartArguments.badIndex (a : StartArguments) : Option Nat :=
  if 1 < a.shape ∨ 2 < a.banks then some 0
  else if (a.shape = 0 ∧ a.count ≠ 1 ∧ a.count ≠ 2 ∧ a.count ≠ 4 ∧ a.count ≠ 8) ∨
      (a.shape = 1 ∧ (a.count < 1 ∨ 12 < a.count)) then some 1
  else if a.stepDuration < 100 ∨ 60000 < a.stepDuration then some 2
  else if a.totalDuration < 100 then some 3
  else if 60000 < a.leadIn then some 4
  else if 60000 < a.leadOut then some 5
  else none

/-- R174: the signed duration that must be at least 100 ms. -/
def StartArguments.lastLength (a : StartArguments) : Int :=
  (a.totalDuration : Int) - a.leadIn - a.leadOut - (if a.shape = 0 then ((a.count : Int) - 1) * a.stepDuration else 0)

/-- R174: the first check that fails, with its Result Detail. -/
def State.startRefusal (s : State) (a : StartArguments) : Option (Result × List Word) :=
  let p := a.pattern
  let bankOk : Bool → BankId → Bool := fun selected k => !selected || (s.bank k).available
  if s.drive.mode ≠ .disarmed then some (.wrongMode, [])
  else match a.badIndex with
    | some k => some (.badArgument, [BitVec.ofNat 16 k])
    | none =>
      if a.lastLength < 100 then some (.badArgument, [3])
      else if 5 ≤ s.groundSpeed then some (.moving, [])
      else if !s.exchange.slate.parkApplied then some (.notParked, [])
      else
        let conditions := [s.present .chopper, bankOk p.selectA .a, bankOk p.selectB .b]
        if conditions.all id then none else some (.notReady, [unmetMask conditions])

/-- R175: the acceptance. Step Level is not named there and stays as it is until step 0: LEAD-IN shows that of the test before (the
model's choice, assumption log 73). -/
def State.acceptStart (s : State) (o : HeldOrder) : State :=
  let p := o.startArguments.pattern
  let s := s.setDesk { s.desk with start := some o }
  let s := s.setSelfLoad { s.selfLoad with
    pattern := p, bodyLength := p.totalDuration - p.leadIn - p.leadOut, stepsRun := 0, stepIndex := 0, stepOpen := false,
    givenA := 0, givenB := 0 }
  let s := s.putHeader { testState := .running, abortCause := none, stepsRun := 0, recorded := 0, unrecorded := 0 }
  let s := s.setGrid { s.grid with dutyTotal := 0 }
  let s := if p.leadIn = 0 then s.beginBody else s.beginPhase .leadIn p.leadIn
  (s.enterSelfLoad).publishSelfLoad

/-- R174: START SELF-LOAD handed to the generator. -/
def State.handStart (s : State) (o : HeldOrder) : State :=
  match s.startRefusal o.startArguments with
  | some (r, detail) => s.complete o.slot r detail
  | none => s.acceptStart o

/-- R182: STOP SELF-LOAD handed to the Drive Governor: in SELF-LOAD the test aborts and both orders complete at the same
taking; in any other mode the order is refused. -/
def State.handStop (s : State) (o : HeldOrder) : State :=
  if s.drive.mode = .selfLoad then (s.abortTest .stopped).complete o.slot .done
  else s.complete o.slot .wrongMode

/-! ## The generator at a DC-link frame (R177, R180) -/

/-- R180: the frame conditions, in the order STATION, BANK TRIP, MOVED, UNPARKED. -/
def State.frameAbort (s : State) : Option AbortCause :=
  let p := s.selfLoad.pattern
  let selected : (Bank → Bool) → Bool := fun f => (p.selectA && f s.grid.bankA) || (p.selectB && f s.grid.bankB)
  if selected (fun b => b.stage = .offline) then some .station
  else if selected (fun b => b.stage = .tripped || b.stage = .lockedOut) then some .bankTrip
  else if 5 ≤ s.groundSpeed then some .moved
  else if !s.exchange.slate.parkApplied then some .unparked
  else none

/-- R177: the duty given for a bank; 0 outside BODY, for an unselected bank and while V is 0. -/
def State.patternDuty (s : State) (k : BankId) : Int :=
  let g := s.selfLoad
  let selected : Bool := match k with
    | .a => g.pattern.selectA
    | .b => g.pattern.selectB
  let v := s.grid.v
  if g.phase = .body ∧ selected ∧ v ≠ 0 then
    min 1000 (g.stepLevel * (s.bankSettings k).ratedPower * (s.bankSettings k).resistance / (v * v))
  else 0

/-- R177: in BODY the frame's readings of the three roles are added to Step Sums; a role that is not VALID adds nothing. -/
def State.addStepSums (s : State) : State :=
  let g := s.selfLoad
  if g.phase = .body then
    let add : Role → Int → Nat → Int × Nat := fun r sum n =>
      if s.roleValid r then (sum + s.roleValue r, n + 1) else (sum, n)
    let v := add .dcLinkVoltage g.sums.v g.sums.vCount
    let iA := add .bankACurrent g.sums.iA g.sums.iACount
    let iB := add .bankBCurrent g.sums.iB g.sums.iBCount
    s.setSelfLoad { g with sums :=
      { v := v.1, vCount := v.2, iA := iA.1, iACount := iA.2, iB := iB.1, iBCount := iB.2 } }
  else s

/-- R59: whether the generator asks for a bank's blower. -/
def State.asksBlower (s : State) (k : BankId) : Bool :=
  let g := s.selfLoad
  let selected : Bool := match k with
    | .a => g.pattern.selectA
    | .b => g.pattern.selectB
  selected && (g.phase = .leadIn || g.phase = .leadOut)

/-! ## The commands of this chapter -/

/-- PHASE_END (R175). -/
def execPhaseEnd (s : State) : Host.Outcome State Fault Refusal := .next s.endPhase

/-- STEP_END (R176). -/
def execStepEnd (s : State) : Host.Outcome State Fault Refusal := .next s.endStep

end Sys2Proof.Machine
end

