-- ==== Sys2Proof/Machine/SupervisionMonitor.lean ====
section
/-! DEFINITION. The Supervision Monitor: the heartbeat window, failures, FALLBACK entry and the decay of row 7
(R163 to R172). -/

namespace Sys2Proof.Machine

/-- R165: the Long Window starts. -/
def State.startLongWindow (s : State) : State :=
  let s := s.setSupervision { s.supervision with window := .longWindow, windowStart := s.now }
  s.setTimers { s.timers with
    longWindow := s.after (1000 * s.inForce.supervision.longWindow), wMin := none, wMax := none }

/-- R165: an EARLY ZONE starts; both expiries are measured from its start. -/
def State.startZone (s : State) : State :=
  let s := s.setSupervision { s.supervision with window := .earlyZone, windowStart := s.now }
  s.setTimers { s.timers with
    longWindow := none, wMin := s.after (1000 * s.inForce.supervision.wMin),
    wMax := s.after (1000 * s.inForce.supervision.wMax) }

/-- R9, R168: the change from ARMED to FALLBACK: row 7 active at min(v, Ls), and the decay timer started. The frame state,
the gate and the outgoing records are kept (R37). -/
def State.enterFallback (s : State) : State :=
  let s := s.changeMode .fallback
  let s := s.writeRow .fallbackSpeed true (some (min s.groundSpeed s.drive.limits.ls))
  let s := s.setSupervision { s.supervision with decayRunning := true }
  s.setTimers { s.timers with decay := s.after 100000 }

/-- R9, R166: what the Drive Governor does with a failure, by the mode. -/
def State.failureInMode (s : State) : State :=
  match s.drive.mode with
  | .armed => s.enterFallback
  | .selfLoad => s.abortTest .supervision
  | .unconfigured | .disarmed | .fallback | .tripped => s

/-- R166: which code a failure latches. -/
def FailureKind.latchCode : FailureKind → FaultCode
  | .early => .supervisionEarly
  | .late => .supervisionLate

/-- R166: a failure, taken whole in its eight steps. -/
def State.failSupervision (s : State) (k : FailureKind) : State :=
  let s := s.setSupervision { s.supervision with lastFailure := some k, lastFailureTime := s.now }
  let s := s.latchFault k.latchCode
  let s := s.setSupervision { s.supervision with
    failureCount := saturate 15 (s.supervision.failureCount + 1), goodCount := 0 }
  let s := s.startLongWindow
  let s := s.raiseCause .supervision
  let s := s.failureInMode
  let s := if 8 ≤ s.supervision.failureCount then s.reportPresent .fallbackLatched else s
  s.publishSupervision

/-- R165: a heartbeat advance; ignored while the window timer is stopped (R163). -/
def State.heartbeatAdvance (s : State) : State :=
  if !s.supervision.running then s
  else match s.supervision.window with
    | .longWindow => s.startZone.publishSupervision
    | .earlyZone => s.failSupervision .early
    | .validZone =>
      let s := s.setSupervision { s.supervision with goodCount := saturate 255 (s.supervision.goodCount + 1) }
      s.startZone.publishSupervision

/-- R165: the Long Window expires. In another zone, or with the window timer stopped, there is no such expiry. -/
def State.expireLongWindow (s : State) : State :=
  if s.supervision.running ∧ s.supervision.window = .longWindow then s.failSupervision .late else s

/-- R165: W_min expires: EARLY ZONE becomes VALID ZONE and Window Start is kept. -/
def State.expireWMin (s : State) : State :=
  if s.supervision.running ∧ s.supervision.window = .earlyZone then
    let s := s.setSupervision { s.supervision with window := .validZone }
    (s.setTimers { s.timers with wMin := none }).publishSupervision
  else s

/-- R165: W_max expires in VALID ZONE. -/
def State.expireWMax (s : State) : State :=
  if s.supervision.running ∧ s.supervision.window = .validZone then s.failSupervision .late else s

/-- R168: a decay step: row 7 stays active and falls by Fallback Decel, down to 0. With the decay timer stopped (R169) the
step does not happen. -/
def State.decayStep (s : State) : State :=
  if s.supervision.decayRunning then
    let s := s.setTimers { s.timers with decay := s.again s.timers.decay 100000 }
    s.writeRow .fallbackSpeed true
      (some (max 0 ((s.row .fallbackSpeed).value - s.inForce.supervision.fallbackDecel)))
  else s

/-- R10, R170: CLEAR FALLBACK handed to the monitor: the first check that fails gives the result. -/
def State.handClearFallback (s : State) (o : HeldOrder) : State :=
  let m := s.supervision
  if s.drive.mode ≠ .fallback then s.complete o.slot .wrongMode
  else if 8 ≤ m.failureCount then s.complete o.slot .locked [wordOf m.failureCount]
  else if m.goodCount < 3 then s.complete o.slot .notReady [1, wordOf m.goodCount]
  else
    let s := (s.setSupervision { m with failureCount := 0 }).reportAbsent .fallbackLatched
    let s := s.complete o.slot .done
    s.returnToArmed.publishSupervision

/-- LONG_WINDOW_EXPIRY (R165). -/
def execLongWindowExpiry (s : State) : Host.Outcome State Fault Refusal := .next s.expireLongWindow

/-- W_MIN_EXPIRY (R165). -/
def execWMinExpiry (s : State) : Host.Outcome State Fault Refusal := .next s.expireWMin

/-- W_MAX_EXPIRY (R165). -/
def execWMaxExpiry (s : State) : Host.Outcome State Fault Refusal := .next s.expireWMax

/-- FALLBACK_DECAY_STEP (R168). -/
def execFallbackDecayStep (s : State) : Host.Outcome State Fault Refusal := .next s.decayStep

end Sys2Proof.Machine
end

