-- ==== Sys2Proof/Machine/ApplyCompletion.lean ====
section
/-! DEFINITION. The completion of an APPLY SETTINGS at the first scan-pass event after its restarts, and what the blocks that
it does not restart do then (R6, R22, R45, R56, R107, R163, R191). -/

namespace Sys2Proof.Machine

/-- R22: the governor frame timer restarted with the Frame Period of the settings in force. -/
def State.startGovernor (s : State) : State :=
  let us := 1000 * s.inForce.governing.framePeriod
  s.setTimers { s.timers with governor := s.after us, governorPeriod := us }

/-- R45: both grid frame timers start; timers that run already are left alone (R71). -/
def State.startGridFrames (s : State) : State :=
  if s.timers.dcLink.isSome then s
  else s.setTimers { s.timers with dcLink := s.after 500, thermal := s.after 100000 }

/-- R163: the window timer starts in LONG WINDOW, unless it runs already. -/
def State.startMonitor (s : State) : State :=
  if s.supervision.running then s
  else
    let s := s.setSupervision { s.supervision with running := true }
    s.startLongWindow.publishSupervision

/-- R56: a bank whose Model Running is clear starts its model at the next thermal frame. -/
def State.markModels (s : State) : State :=
  let mark : Bank → Bank := fun b => { b with startDue := b.startDue || !b.modelRunning }
  s.setGrid { s.grid with bankA := mark s.grid.bankA, bankB := mark s.grid.bankB }

/-- R191: the APPLY SETTINGS that waits for its first scan pass completes DONE; in UNCONFIGURED Mode becomes DISARMED (R6). With
none TAKEN nothing happens. -/
def State.completeApply (s : State) : State :=
  match s.desk.apply with
  | none => s
  | some o =>
    let s := ((s.setDesk { s.desk with apply := none }).setSettled s.settings).complete o.slot .done
    let s := if s.drive.mode = .unconfigured then s.enterDisarmed else s
    let s := s.startGovernor.startGridFrames.startMonitor.markModels
    s.setLoad { s.load with acting := true }

/-- APPLY_SETTINGS_COMPLETION (R191). -/
def execApplySettingsCompletion (s : State) : Host.Outcome State Fault Refusal := .next s.completeApply

end Sys2Proof.Machine
end

