-- ==== Sys2Proof/Machine/LoadMonitor.lean ====
section
/-! DEFINITION. The Load Monitor: weighing, TARE LOAD, the load cycle, payload used, the overload classes and the wheel motors
(R106 to R125). -/

namespace Sys2Proof.Machine

/-! ## Weighing (R108) -/

/-- R108: the strut roles, in the order their faults are looked for. -/
def strutRoles : List Role := [.strutFL, .strutFR, .strutRL, .strutRR]

/-- R108: the first strut role that is not VALID. -/
def State.badStrut (s : State) : Option Role := strutRoles.find? (fun r => !s.roleValid r)

/-- R108: the sprung mass of four VALID pressures. -/
def State.sprungMass (s : State) : Int :=
  let c := s.active.load
  (s.roleValue .strutFL * c.areaFL + s.roleValue .strutFR * c.areaFR + s.roleValue .strutRL * c.areaRL +
    s.roleValue .strutRR * c.areaRR) / 9810

/-- R124: the pressures last read; a role that is not VALID gives no new reading. -/
def State.readStruts (s : State) : State :=
  let x := s.load
  let read : Role → Int → Int := fun r old => if s.roleValid r then s.roleValue r else old
  s.setLoad { x with
    pressFL := read .strutFL x.pressFL, pressFR := read .strutFR x.pressFR, pressRL := read .strutRL x.pressRL,
    pressRR := read .strutRR x.pressRR }

/-- R106, R108: Live Payload, from the Sprung Mass that stands and the Tare. -/
def State.weighLive (s : State) : State :=
  s.setLoad { s.load with livePayload := if s.load.tareSet then s.load.sprungMass - s.load.tare else 0 }

/-- R108: step 1. -/
def State.weigh (s : State) : State :=
  let s := s.readStruts
  let s := match s.badStrut with
    | some r => s.reportPresent .strutSensorInvalid r.number
    | none =>
      let s := s.reportAbsent .strutSensorInvalid
      s.setLoad { s.load with sprungMass := s.sprungMass }
  s.weighLive

/-- R108: the pass's weighing sample, if it yields one. -/
def State.weighingSample (s : State) : Option Int :=
  if s.badStrut.isNone && s.load.tareSet && decide (s.groundSpeed < 5) && !s.exchange.slate.bodyRaised then
    some s.load.livePayload
  else none

/-! ## TARE LOAD (R109, R110) -/

/-- R110: the case of an abort at a pass. -/
def State.tareAbort (s : State) : Option AbortCause :=
  if 5 ≤ s.groundSpeed then some .moved
  else if s.badStrut.isSome then some .sensor
  else if s.exchange.slate.bodyRaised || s.load.cycle ≠ .empty then some .loadCycle
  else none

/-- R106: Tare lies in 0 to 65535; a mean outside that is stored as a free value (assumption log 11). -/
def tareOf (mean : Int) : Int := if 0 ≤ mean ∧ mean ≤ 65535 then mean else clamp 0 65535 (Config.tareOutOfRange mean)

/-- R110: the sixteenth sample completes the order. -/
def State.completeTare (s : State) (o : HeldOrder) (sum : Int) : State :=
  let old := s.load.tare
  let tare := tareOf (sum / 16)
  let s := s.setLoad { s.load with tare := tare, tareSet := true, emptyConfirmed := true, tareProgress := none }
  (s.setDesk { s.desk with tare := none }).complete o.slot .done [wordOf tare, wordOf old]

/-- R110: step 2 of a pass while a TARE LOAD is TAKEN. -/
def State.tareStep (s : State) : State :=
  match s.desk.tare with
  | none => s
  | some o =>
    match s.tareAbort with
    | some c =>
      let s := s.setLoad { s.load with tareProgress := none }
      (s.setDesk { s.desk with tare := none }).complete o.slot .aborted [wordOf c.code]
    | none =>
      let p := s.load.tareProgress.getD (0, 0)
      if 15 ≤ p.1 then s.completeTare o (p.2 + s.load.sprungMass)
      else s.setLoad { s.load with tareProgress := some (p.1 + 1, p.2 + s.load.sprungMass) }

/-- R109: TARE LOAD handed to the Load Monitor. -/
def State.handTareLoad (s : State) (o : HeldOrder) : State :=
  let conditions := [!(s.fault .strutSensorInvalid).active, decide (s.drive.mode ≠ .unconfigured)]
  if s.load.cycle ≠ .empty ∨ s.exchange.slate.bodyRaised then s.complete o.slot .wrongMode
  else if 5 ≤ s.groundSpeed then s.complete o.slot .moving
  else if !conditions.all id then s.complete o.slot .notReady [unmetMask conditions]
  else (s.setDesk { s.desk with tare := some o }).setLoad { s.load with tareProgress := some (0, 0) }

/-! ## The load cycle (R111 to R115) -/

/-- R112: band timing at a pass. -/
def State.timeBand (s : State) (sample : Option Int) : State :=
  match sample with
  | none => s.setLoad { s.load with band := none }
  | some x =>
    let side : BandSide := if x < s.active.load.emptyBand then .below else .atOrAbove
    let band : Nat × BandSide := match s.load.band with
      | some (t, old) => if old = side then (t, old) else (s.now, side)
      | none => (s.now, side)
    s.setLoad { s.load with band := some band }

/-- R112: a run of 2 s on a side, at a pass that yields a sample. -/
def State.bandMet (s : State) (side : BandSide) : Bool :=
  match s.load.band with
  | some (t, x) => x = side && decide (2000 ≤ elapsed s.now t)
  | none => false

/-- R112: move timing at a pass in LOADING. -/
def State.timeMove (s : State) : State :=
  if s.load.cycle = .loading then
    s.setLoad { s.load with moveSince := if 30 ≤ s.groundSpeed then some (s.load.moveSince.getD s.now) else none }
  else s

/-- R112: the run of 5 s. -/
def State.moveMet (s : State) : Bool :=
  match s.load.moveSince with
  | some t => decide (5000 ≤ elapsed s.now t)
  | none => false

/-- R112: a change of Cycle State empties both stamps. -/
def State.enterCycle (s : State) (c : Cycle) : State :=
  s.setLoad { s.load with cycle := c, band := none, moveSince := none }

/-- R111: entry into LOADING empties the Weigh Buffer. -/
def State.enterLoading (s : State) : State :=
  let s := s.enterCycle .loading
  s.setLoad { s.load with weighBuffer := [] }

/-- R111: what Payload Used and Latched Payload take from the buffer. -/
def Load.bufferPayload (x : Load) : Int := max 0 (floorMean x.weighBuffer)

/-- R114: departure. -/
def State.latchPayload (s : State) : State :=
  let s := s.enterCycle .hauling
  let x := s.load
  if x.weighBuffer.isEmpty then
    s.setLoad { x with latchedPayload := s.active.load.ratedPayload, latchedUnweighed := true }
  else s.setLoad { x with latchedPayload := x.bufferPayload, latchedUnweighed := false }

/-- R115: DUMPING to EMPTY. -/
def State.endCycle (s : State) : State :=
  let s := s.enterCycle .empty
  s.setLoad { s.load with
    cycleCount := saturate 65535 (s.load.cycleCount + 1), latchedPayload := 0, latchedUnweighed := false,
    emptyConfirmed := true }

/-- R113 to R115: the transition of a pass. A truck in LOADING with its body raised whose move run is met becomes HAULING, as R114
says; R115's sentence that such a truck stays LOADING is read of the raised body by itself (the model's choice, assumption log
75). -/
def State.moveCycle (s : State) : State :=
  match s.load.cycle with
  | .empty =>
    if s.bandMet .atOrAbove then s.enterLoading
    else if s.bandMet .below then s.setLoad { s.load with emptyConfirmed := true }
    else s
  | .loading =>
    if s.bandMet .below then
      let s := s.enterCycle .empty
      s.setLoad { s.load with emptyConfirmed := true }
    else if s.moveMet then s.latchPayload
    else s
  | .hauling => if s.exchange.slate.bodyRaised then s.enterCycle .dumping else s
  | .dumping =>
    if s.exchange.slate.bodyRaised then s
    else if s.bandMet .below then s.endCycle
    else if s.bandMet .atOrAbove then s.enterLoading
    else s

/-- R111: a sample appended to the Weigh Buffer, which holds at most 16. -/
def appendSample (buffer : List Int) (x : Int) : List Int :=
  (if 16 ≤ buffer.length then buffer.drop 1 else buffer) ++ [x]

/-- R111 to R115: step 3, with the weighing sample of step 1. The sample of a pass in LOADING is appended whatever the
transition, also at the pass that R113 takes to EMPTY; that of the pass that enters LOADING is not. -/
def State.cycleStep (s : State) (sample : Option Int) : State :=
  let before := s.load.cycle
  let s := ((s.timeBand sample).timeMove).moveCycle
  match sample with
  | some x =>
    if before = .loading then
      s.setLoad { s.load with weighBuffer := appendSample s.load.weighBuffer x }
    else s
  | none => s

/-! ## Payload used and the classes (R116 to R119) -/

/-- R116: Payload Used and UNWEIGHED. -/
def State.payloadOf (s : State) : Int × Bool :=
  let x := s.load
  let rated := s.active.load.ratedPayload
  match x.cycle with
  | .hauling | .dumping => (x.latchedPayload, x.latchedUnweighed)
  | .empty => if s.badStrut.isSome || !x.emptyConfirmed then (rated, true) else (0, false)
  | .loading => if s.badStrut.isSome || x.weighBuffer.isEmpty then (rated, true) else (x.bufferPayload, false)

/-- R116, R117: step 4. -/
def State.usePayload (s : State) : State :=
  let p := s.payloadOf
  let c := s.active.load
  let s := s.setLoad { s.load with payloadUsed := p.1, unweighed := p.2, ratio := p.1 * 1000 / c.ratedPayload }
  let s := s.setGrid { s.grid with grossMass := some (c.emptyMass + p.1) }
  s.setSteer { s.steer with given := some (p.1, c.ratedPayload) }

/-- R118: the class from r. -/
def State.classOfRatio (s : State) : LoadClass :=
  let c := s.active.load
  if s.load.unweighed then .normal
  else if c.class2Threshold < s.load.ratio then .class2
  else if c.class1Threshold < s.load.ratio then .class1
  else .normal

/-- R118: the class after a pass. `latched`: the pass has latched the payload. -/
def State.classOfPass (s : State) (latched : Bool) : LoadClass :=
  match s.load.cycle with
  | .empty => .normal
  | .loading => s.classOfRatio
  | .hauling => if latched || s.load.afterApply then s.classOfRatio else s.load.loadClass
  | .dumping => s.load.loadClass

/-- R119: rows 6 and 9 and the class faults, for the class that stands. -/
def State.writeClass (s : State) : State :=
  let c := s.active.load
  let k := s.load.loadClass
  let s := match k with
    | .normal => (s.writeRow .loadClassSpeed false none).writeRow .loadClassPropel false none
    | .class1 => (s.writeRow .loadClassSpeed true (some c.class1Speed)).writeRow .loadClassPropel false none
    | .class2 =>
      (s.writeRow .loadClassSpeed true (some c.class2Speed)).writeRow .loadClassPropel true (some c.class2PropelCap)
  (s.report .overloadClass1 (k = .class1)).report .overloadClass2 (k = .class2)

/-- R118, R119: step 5, with the rows written anew at the first pass after a reset or an APPLY SETTINGS. -/
def State.classStep (s : State) (latched : Bool) : State :=
  let k := s.classOfPass latched
  if k = s.load.loadClass ∧ !s.load.afterReset ∧ !s.load.afterApply then s
  else (s.setLoad { s.load with loadClass := k }).writeClass

/-- R107: the reports of the first pass after a reset beside those of R108 and R119 (assumption log 20). -/
def State.firstReports (s : State) : State :=
  if s.load.afterReset then
    (((s.reportAbsent .motorLOverloadHeld).reportAbsent .motorROverloadHeld).reportAbsent .motorLOvertemp).reportAbsent
      .motorROvertemp
  else s

/-- R108, R124: one scan pass of the Load Monitor, in its six steps. Before it acts (R107) a pass does nothing. -/
def State.loadPass (s : State) : State :=
  if s.load.acting then
    let s := s.weigh.firstReports
    let sample := s.weighingSample
    let s := s.tareStep
    let before := s.load.cycle
    let s := (s.cycleStep sample).usePayload
    let s := s.classStep (before = .loading && s.load.cycle = .hauling)
    let s := s.setLoad { s.load with afterReset := false, afterApply := false }
    s.setPublished { s.published with load := s.load }
  else s

/-! ## The wheel motors (R120 to R123) -/

/-- A wheel's motor record. -/
def State.motor (s : State) : Wheel → Motor
  | .left => s.load.motorL
  | .right => s.load.motorR

/-- A wheel's motor record replaced. -/
def State.setMotor (s : State) (w : Wheel) (m : Motor) : State :=
  match w with
  | .left => s.setLoad { s.load with motorL := m }
  | .right => s.setLoad { s.load with motorR := m }

/-- R120: Bmax. -/
def LoadSettings.budgetMax (c : LoadSettings) : Int := (1000000 - c.continuousRating * c.continuousRating) * c.peakSeconds

/-- R122: a temperature cap that falls from 1000 at a warning temperature to 0 at Motor Trip. -/
def temperatureCap (warn trip t : Int) : Int :=
  if trip ≤ t then 0 else if warn ≤ t then 1000 * (trip - t) / (trip - warn) else 1000

/-- R120 to R122: the motor record after a reply. -/
def Motor.after (m : Motor) (c : LoadSettings) (now : Nat) (r : TorqueReply) : Motor :=
  let d : Int := match m.lastReply with
    | none => 0
    | some t => min 100 (elapsed now t)
  let b := clamp 0 c.budgetMax
    (m.budget + (r.torque * r.torque - c.continuousRating * c.continuousRating) * d / 1000)
  let t : Int := ((r.winding : Int) - 40) * 10
  { budget := b
    held := if m.held then decide (c.budgetMax / 2 < b) else decide (b = c.budgetMax)
    lastReply := some now
    winding := some t
    propelCap := temperatureCap c.motorWarn c.motorTrip t
    retardCap := temperatureCap c.motorRetardWarn c.motorTrip t }

/-- 1.5: a wheel's motor propel row. -/
def Wheel.propelRow : Wheel → RowId
  | .left => .motorPropelLeft
  | .right => .motorPropelRight

/-- 1.5: a wheel's motor retard row. -/
def Wheel.retardRow : Wheel → RowId
  | .left => .motorRetardLeft
  | .right => .motorRetardRight

/-- R121: the budget cap. -/
def Motor.budgetCap (m : Motor) (c : LoadSettings) : Int := if m.held then c.continuousRating else 1000

/-- R123: a motor row. -/
def State.writeMotorRow (s : State) (r : RowId) (value : Int) : State :=
  if value < 1000 then s.writeRow r true (some value) else s.writeRow r false none

/-- R124: a wheel's published motor items. -/
def State.publishMotor (s : State) (w : Wheel) : State :=
  let m := s.motor w
  let p : MotorPublication :=
    { budget := m.budget, budgetMax := s.active.load.budgetMax, held := m.held, winding := m.winding,
      propelCap := m.propelCap, retardCap := m.retardCap }
  match w with
  | .left => s.setPublished { s.published with motorL := p }
  | .right => s.setPublished { s.published with motorR := p }

/-- R120 to R123: an accepted TORQUE REPLY of a wheel. -/
def State.takeMotorReply (s : State) (w : Wheel) (r : TorqueReply) : State :=
  let c := s.active.load
  let old := s.motor w
  let m := old.after c s.now r
  let s := s.setMotor w m
  let s :=
    if m.held && !old.held then s.reportPresent w.heldCode
    else if old.held && !m.held then s.reportAbsent w.heldCode
    else s
  let s := s.report w.overtempCode (decide (c.motorTrip ≤ ((r.winding : Int) - 40) * 10))
  let s := s.writeMotorRow w.propelRow (min (m.budgetCap c) m.propelCap)
  let s := s.writeMotorRow w.retardRow (min (m.budgetCap c) m.retardCap)
  s.publishMotor w

/-! ## Restarts (R107, R125) -/

/-- R125: the restart by an APPLY SETTINGS. A TARE LOAD that is TAKEN counts again from no samples (R110). The fields that neither list
of R125 names keep their values until the next pass or reply (the model's choice, assumption log 68). -/
def State.restartLoad (s : State) : State :=
  let top := s.active.load.budgetMax
  let fit : Motor → Motor := fun m => { m with budget := clamp 0 top m.budget }
  s.setLoad { s.load with
    band := none, moveSince := none, tareProgress := s.desk.tare.map (fun _ => (0, 0)), motorL := fit s.load.motorL,
    motorR := fit s.load.motorR, afterApply := true }

/-- R107: the Load Monitor after a board reset or a soft restart. -/
def State.resetLoad (s : State) : State :=
  s.setLoad { Load.initial with tare := s.load.tare, tareSet := s.load.tareSet, acting := s.settings.isSome }

/-- TARE_LOAD_COMPLETION (R110): the sixteenth scan pass of a TARE LOAD that is TAKEN reaches the Load Monitor. With another
count there is no such pass (assumption log 3). -/
def execTareLoadCompletion (s : State) : Host.Outcome State Fault Refusal :=
  if s.desk.tare.isSome ∧ s.load.tareProgress.map (fun p => p.1) = some 15 then .next s.loadPass else .next s

end Sys2Proof.Machine
end

