-- ==== Sys2Proof/Machine/SteeringServo.lean ====
section
/-! DEFINITION. The Steering Servo: the steering frame in its ten steps, the events it takes at once, CLEAR FAULT and its
restarts (R85 to R105). -/

namespace Sys2Proof.Machine

/-! ## Publication, failing and row 5 (R99, R103, R104) -/

/-- R104: the servo publishes its record, with the time since Track Since. The spool position and Pump Running are read off
the last accepted VALVE REPLY. -/
def State.publishSteer (s : State) : State :=
  s.setPublished { s.published with
    steer := s.steer
    trackTime := match s.steer.trackSince with
      | none => 0
      | some t => elapsed s.now t }

/-- R92, R99: Flow, with the Flow field of station 4's outgoing record. -/
def State.writeFlow (s : State) (flow : Int) : State :=
  let s := s.setSteer { s.steer with flow := flow }
  s.setLink { s.link with outgoing := { s.link.outgoing with flow := flow } }

/-- R103: row 5 for the State that stands. In OFF it is not written (R86). -/
def State.writeReserveRow (s : State) : State :=
  let s := match s.steer.state with
    | .off => s
    | .normal => s.writeRow .steerReserveSpeed false none
    | .reserve | .failed => s.writeRow .steerReserveSpeed true (some 0)
  s.setSteer { s.steer with rowFor := some s.steer.state }

/-- R99: a servo in NORMAL or RESERVE enters FAILED. -/
def State.failServo (s : State) (c : FaultCode) : State :=
  let s := s.setSteer { s.steer with state := .failed, failCause := some c, trackSince := none }
  ((s.writeFlow 0).writeReserveRow).publishSteer

/-- A failure condition's code against the servo's State: NORMAL and RESERVE fail; a servo already FAILED takes the code as
its Fail Cause where `fresh` holds (R93, R95, R96, R98); in OFF nothing changes. -/
def State.takeFailure (s : State) (c : FaultCode) (fresh : Bool) : State :=
  match s.steer.state with
  | .off => s
  | .normal | .reserve => s.failServo c
  | .failed => if fresh then (s.setSteer { s.steer with failCause := some c }).publishSteer else s

/-! ## The steps of a steering frame (R87) -/

/-- R86: the first frame after a restart moves OFF to NORMAL. -/
def State.wakeServo (s : State) : State :=
  match s.steer.state with
  | .off => s.setSteer { s.steer with state := .normal }
  | .normal | .reserve | .failed => s

/-- R95: step 1. The answer's second part says whether the step gave the Fail Cause (R99: the first condition of a frame
gives it). -/
def State.judgeFeedback (s : State) : State × Bool :=
  if s.roleValid .roadWheelAngle then
    ((s.setSteer { s.steer with measured := s.roleValue .roadWheelAngle }).reportAbsent .steerFeedbackInvalid, false)
  else
    let fresh : Bool := !(s.fault .steerFeedbackInvalid).active
    let gives : Bool := s.steer.state ≠ .failed || fresh
    ((s.reportPresent .steerFeedbackInvalid).takeFailure .steerFeedbackInvalid fresh, gives)

/-- R97: the move between NORMAL and RESERVE when the Supply Low flag changes; FAILED keeps its state. -/
def SteerState.withSupply (x : SteerState) (low : Bool) : SteerState :=
  match x with
  | .normal => if low then .reserve else .normal
  | .reserve => if low then .reserve else .normal
  | .off => .off
  | .failed => .failed

/-- R97: the flag clear. -/
def State.judgeSupplyHigh (s : State) (below : Bool) : State :=
  let x := s.steer
  if below then
    let since := x.lowSince.getD s.now
    if 200 ≤ elapsed s.now since then
      (s.setSteer { x with supplyLow := true, lowSince := none, state := x.state.withSupply true }).reportPresent
        .steerSupplyLow
    else s.setSteer { x with lowSince := some since }
  else s.setSteer { x with lowSince := none }

/-- R97: the flag set. -/
def State.judgeSupplyLow (s : State) (recovered : Bool) : State :=
  let x := s.steer
  if recovered then
    let since := x.recoverSince.getD s.now
    if 2000 ≤ elapsed s.now since then
      ((s.setSteer { x with supplyLow := false, recoverSince := none, state := x.state.withSupply false }).reportAbsent
        .steerSupplyLow).reportAbsent .steerAccumulatorLow
    else s.setSteer { x with recoverSince := some since }
  else s.setSteer { x with recoverSince := none }

/-- R97: step 2, the supply. A role that is not VALID counts as below Supply Low and as not recovered. -/
def State.judgeSupply (s : State) : State :=
  let c := s.active.steer
  let valid := s.roleValid .steerSupply
  let p := s.roleValue .steerSupply
  let s := if valid then s.setSteer { s.steer with supplyRead := p } else s
  if s.steer.supplyLow then s.judgeSupplyLow (valid && decide (c.supplyRecover ≤ p))
  else s.judgeSupplyHigh (!valid || decide (p < c.supplyLow))

/-- R98: whether the accumulator is low: its role not VALID, or its pressure below Accumulator Min. -/
def State.accumulatorLow (s : State) : Bool :=
  !s.roleValid .accumulator || decide (s.roleValue .accumulator < s.active.steer.accumulatorMin)

/-- R98: step 2, the accumulator. `given`: step 1 gave the frame's Fail Cause. -/
def State.judgeAccumulator (s : State) (given : Bool) : State :=
  let c := s.active.steer
  let p := s.roleValue .accumulator
  let s := if s.roleValid .accumulator then s.setSteer { s.steer with accumulatorRead := p } else s
  let s := s.setSteer { s.steer with
    reserveStrokes := if s.accumulatorLow then 0 else (p - c.accumulatorMin) / c.pressurePerStroke }
  if !s.steer.supplyLow then s
  else if s.accumulatorLow then
    let fresh : Bool := !(s.fault .steerAccumulatorLow).active && !given
    let s := s.reportPresent .steerAccumulatorLow
    match s.steer.state with
    | .reserve | .failed => s.takeFailure .steerAccumulatorLow fresh
    | .off | .normal => s
  else s.reportAbsent .steerAccumulatorLow

/-- R88: the demand from the handwheel. -/
def State.handwheelDemand (s : State) : Int :=
  let c := s.active.steer
  clamp (-c.maxLock) c.maxLock (s.roleValue .handwheelAngle * c.handwheelRatio / 100)

/-- R88, R89: step 3. -/
def State.takeDemand (s : State) : State :=
  if s.active.steer.demandSource = .slate ∧ s.drive.mode ≠ .fallback then
    s.setSteer { s.steer with source := .slate, sourceDemand := s.exchange.slate.steering }
  else if s.roleValid .handwheelAngle then
    s.setSteer { s.steer with source := .handwheel, sourceDemand := s.handwheelDemand }
  else s.setSteer { s.steer with source := .held }

/-- R90: step 4. -/
def State.limitAngle (s : State) : State :=
  let top := interpolate s.active.steer.maxAngleTable s.groundSpeed
  s.setSteer { s.steer with maxAngle := top, limitedDemand := clamp (-top) top s.steer.sourceDemand }

/-- R91: the largest move of the target in a frame. -/
def State.steerStep (s : State) : Int :=
  let c := s.active.steer
  let rate := interpolate c.rateTable s.groundSpeed
  (if s.steer.state = .reserve then min rate c.reserveRate else rate) * 5 / 1000

/-- R91: a target moved toward a demand by at most a step. -/
def moveToward (step target demand : Int) : Int :=
  if magnitude (demand - target) ≤ step then demand else if target < demand then target + step else target - step

/-- R86, R91: step 5. The first frame after a restart sets Target equal to Measured before the step. -/
def State.moveTarget (s : State) : State :=
  let step := s.steerStep
  let x := if s.steer.first then { s.steer with target := s.steer.measured, first := false } else s.steer
  let target := match x.state with
    | .normal | .reserve => moveToward step x.target x.limitedDemand
    | .failed => if s.roleValid .roadWheelAngle then x.measured else x.target
    | .off => x.target
  s.setSteer { x with step := step, target := target }

/-- R94: step 6. -/
def State.judgeTracking (s : State) : State :=
  let x := s.steer
  match x.state with
  | .off | .failed => s
  | .normal | .reserve =>
    if s.active.steer.trackErrorLimit < magnitude (x.target - x.measured) then
      match x.trackSince with
      | none => s.setSteer { x with trackSince := some s.now }
      | some t =>
        if elapsed s.now t < 500 then s else (s.latchFault .steerTracking).failServo .steerTracking
    else s.setSteer { x with trackSince := none }

/-- R92: the flow of a frame. -/
def State.steerFlow (s : State) : Int :=
  match s.steer.state with
  | .normal | .reserve => clamp (-1000) 1000 (s.active.steer.ks * (s.steer.target - s.steer.measured) / 16)
  | .off | .failed => 0

/-- R101: step 8. -/
def State.trackRatios (s : State) : State :=
  let m := s.steer.measured
  let g := s.active.steer.trackGain * min (magnitude m) 4200 / 1000
  let ratios : Int × Int :=
    if !s.roleValid .roadWheelAngle ∨ m = 0 then (1000, 1000)
    else if 0 < m then (1000 + g, 1000 - g) else (1000 - g, 1000 + g)
  s.setSteer { s.steer with kL := ratios.1, kR := ratios.2 }

/-- R102: the load fraction, floored; before the Load Monitor has given its values it is free within the manual's bounds
(assumption log 10). -/
def State.loadFraction (s : State) : Int :=
  match s.steer.given with
  | some (used, rated) => min used rated * 1000 / rated
  | none => clamp 0 1000 (Config.loadFraction s.freeCount)

/-- R102: step 9, row 4. -/
def State.writeCurveRow (s : State) : State :=
  let c := s.active.steer
  let measured := if s.roleValid .roadWheelAngle then magnitude s.steer.measured else c.maxLock
  let angle := max (min (magnitude s.steer.target) 4200) (min measured 4200)
  let ce := interpolate c.emptyCurve angle
  let cl := interpolate c.loadedCurve angle
  let f := s.loadFraction
  (s.setSteer { s.steer with curveAngle := angle, fraction := f, ce := ce, cl := cl }).writeRow .curveSpeed true
    (some (ce + ((cl - ce) * f).tdiv 1000))

/-- R103: step 9, row 5, if State has changed since the last write. -/
def State.refreshReserveRow (s : State) : State :=
  if s.steer.rowFor = some s.steer.state then s else s.writeReserveRow

/-- R87: one steering frame, in its ten steps. With its timer stopped (R86) no steering frame runs. -/
def State.steeringFrame (s : State) : State :=
  if s.timers.steering.isNone then s
  else
    let s := (s.setTimers { s.timers with steering := s.again s.timers.steering 5000 }).wakeServo
    let judged := s.judgeFeedback
    let s := judged.1.judgeSupply.judgeAccumulator judged.2
    let s := s.takeDemand.limitAngle.moveTarget.judgeTracking
    let s := (s.writeFlow s.steerFlow).trackRatios
    let s := s.writeCurveRow.refreshReserveRow
    s.publishSteer.drawFree

/-! ## The events taken at once (R93, R96, R100) -/

/-- R93: an accepted VALVE REPLY. -/
def State.takeValveReply (s : State) (r : ValveReply) : State :=
  if r.fault then
    let fresh : Bool := !(s.fault .valveFault).active
    (s.reportPresent .valveFault).takeFailure .valveFault fresh
  else s.reportAbsent .valveFault

/-- R96: station 4 becomes LOST. -/
def State.stationFourLost (s : State) : State := s.takeFailure .station4Lost true

/-- R100: the first failure condition present. -/
def State.failureCondition (s : State) : Option FaultCode :=
  if !s.roleValid .roadWheelAngle then some .steerFeedbackInvalid
  else if (s.station .valve).state = .lost then some .station4Lost
  else if s.valveReply.fault then some .valveFault
  else if s.steer.supplyLow && s.accumulatorLow then some .steerAccumulatorLow
  else none

/-- R100: a CLEAR FAULT has cleared the Latched of a code. -/
def State.tellSteer (s : State) (c : FaultCode) : State :=
  if s.steer.state = .failed ∧ s.steer.failCause = some c then
    match s.failureCondition with
    | some d => (s.setSteer { s.steer with failCause := some d }).publishSteer
    | none =>
      let s := s.setSteer { s.steer with
        state := if s.steer.supplyLow then .reserve else .normal, failCause := none, target := s.steer.measured }
      s.writeReserveRow.publishSteer
  else s

/-! ## Restarts (R86) -/

/-- R86: the restart by an APPLY SETTINGS: State and Fail Cause are kept (assumption log 18). Clearing the Supply Low flag here reports
nothing: the records of STEER SUPPLY LOW and STEER ACCUMULATOR LOW stay as they are (the model's choice, assumption log 70). The
fields that R86 does not name keep their values until the first frame (the model's choice, assumption log 71). -/
def State.restartSteer (s : State) : State :=
  let s := s.setSteer { s.steer with
    trackSince := none, lowSince := none, recoverSince := none, supplyLow := false, first := true, awaitPass := true,
    rowFor := none }
  let s := s.setTimers { s.timers with steering := none }
  s.writeFlow 0

/-- R86: the first scan-pass event after a restart starts the steering frame timer with its 5 ms period. -/
def State.startSteerTimer (s : State) : State :=
  if s.steer.awaitPass then
    (s.setSteer { s.steer with awaitPass := false }).setTimers { s.timers with steering := s.after 5000 }
  else s

/-- R86: the servo after a board reset or a soft restart. Target reads 0 until the first steering frame gives it Measured: R86
gives no value for that time (assumption log 13). -/
def State.resetSteer (s : State) : State :=
  let s := s.setSteer { Steer.initial with
    state := if s.settings.isSome then .normal else .off, awaitPass := s.settings.isSome }
  (s.setTimers { s.timers with steering := none }).writeFlow 0

/-- STEERING_FRAME (R87). -/
def execSteeringFrame (s : State) : Host.Outcome State Fault Refusal := .next s.steeringFrame

end Sys2Proof.Machine
end

