-- ==== Sys2Proof/Machine/ScanUnit.lean ====
section
/-! DEFINITION. The Scan Unit: strobes, conversions, the Sample Table, scan passes and restarts (R150 to R157). -/

namespace Sys2Proof.Machine

/-- R151: whether the out-of-range set is empty. -/
def Scan.allIn (x : Scan) : Bool := x.table.toList.all (fun e => e.state ≠ .outOfRange)

/-- R192: the out-of-range set as a word, bit r − 1 for role r. -/
def Scan.outWord (x : Scan) : Word := flagWord (x.table.toList.map (fun e => e.state = .outOfRange))

/-- R162: the Scan Unit publishes the pass number, the Scan Index and the out-of-range set. "At each strobe" is read as at each strobe's
completion, after the Sample Table write and the advance of the Scan Index (assumption log 77). -/
def State.publishScan (s : State) : State :=
  s.setPublished { s.published with
    passNumber := s.scan.passNumber, scanIndex := s.scan.index, outSet := s.scan.outWord }

/-- R152: the Scan List entry at Scan Index; none before the first settings. -/
def State.scanEntry (s : State) : Option ScanEntry :=
  match s.settings with
  | none => none
  | some c => c.scan.entries[s.scan.index]?

/-- R152: the strobe timer expires: it restarts, and the conversions of the entry at Scan Index begin. With the timer stopped
no strobe falls. -/
def State.strobe (s : State) : State :=
  if s.timers.strobe.isSome then
    let s := s.setTimers { s.timers with strobe := s.again s.timers.strobe s.active.scan.strobePeriod }
    s.setScan { s.scan with busy := true }
  else s

/-- R152: a range's full scale, in microvolts. -/
def fullScale (range : Nat) : Int :=
  match range with
  | 0 => 625000
  | 1 => 1250000
  | 2 => 2500000
  | _ => 5000000

/-- R152: the code of an input voltage, in proportion to the range's full scale: below 0 V it is 0, at or above full scale
16383. In between it is the floor of 16384 times the proportion (assumption log 45). -/
def converterCode (range : Nat) (microvolts : Int) : BitVec 14 :=
  BitVec.ofInt 14 (clamp 0 16383 (16384 * microvolts / fullScale range))

/-- R152: the codes of a strobe: the converter selects the entry's input and range and takes as many conversions as its
Averaging names. -/
def ScanEntry.codes (e : ScanEntry) (conversions : List Conversion) : List (BitVec 14) :=
  (conversions.take e.averaging).map (fun x => converterCode e.range (x.toList.getD e.input 0))

/-- R152: whether a strobe's codes make it SATURATED. -/
def saturated (codes : List (BitVec 14)) : Bool := codes.any (fun c => c = 0 || c = 16383)

/-- R152: the averaged code. -/
def averagedCode (codes : List (BitVec 14)) (averaging : Nat) : Int :=
  (codes.map (fun c => c.toNat)).sum / averaging

/-- R153: the engineering value. -/
def ScanEntry.engineer (e : ScanEntry) (codes : List (BitVec 14)) : Int :=
  clamp (-32768) 32767 (e.offset + averagedCode codes e.averaging * e.scale / 4096)

/-- R157: a role's limits. -/
def ScanSettings.limitsOf (c : ScanSettings) (r : Role) : RoleLimits := c.limits.getD r.index ⟨-32768, 32767⟩

/-- R153: a Sample Table entry after a strobe. -/
def Sample.after (x : Sample) (e : ScanEntry) (limits : RoleLimits) (codes : List (BitVec 14)) : Sample :=
  if saturated codes then { x with state := .outOfRange, outCause := some .saturated }
  else
    let v := e.engineer codes
    if v < limits.low then { x with state := .outOfRange, lastRead := v, outCause := some .low }
    else if limits.high < v then { x with state := .outOfRange, lastRead := v, outCause := some .high }
    else { state := .valid, value := v, lastRead := v, outCause := none }

/-- R153, R154: the role's entry is written and SCAN ROLE RANGE reported. -/
def State.writeSample (s : State) (r : Role) (x : Sample) : State :=
  let old := s.sample r
  let s := s.setScan { s.scan with table := s.scan.table.set r.index x }
  let s :=
    if x.state = .outOfRange ∧ old.state ≠ .outOfRange then s.reportPresent .scanRoleRange r.number else s
  if s.scan.allIn then s.reportAbsent .scanRoleRange else s

/-- R155: the scan-pass event is given to the Load Monitor, the Steering Servo and the Order Desk. -/
def State.scanPass (s : State) : State := s.loadPass.startSteerTimer.completeApply

/-- R153: the Scan Index advances; from the last entry it returns to 0 and the scan-pass event is given. -/
def State.advanceScan (s : State) (entries : Nat) : State :=
  let next := s.scan.index + 1
  if entries ≤ next then
    let s := s.setScan { s.scan with index := 0, passNumber := (s.scan.passNumber + 1) % 65536 }
    s.publishScan.scanPass
  else (s.setScan { s.scan with index := next }).publishScan

/-- R153: the strobe in progress completes with the conversions found, of which the entry takes as many as its Averaging
names (assumption log 45). With no strobe in progress, or fewer conversions, the last one has not been taken (assumption
log 3). -/
def State.completeStrobe (s : State) (conversions : List Conversion) : State :=
  match s.settings, s.scanEntry with
  | some c, some e =>
    if s.scan.busy && decide (e.averaging ≤ conversions.length) then
      let s := s.setScan { s.scan with busy := false }
      let s := s.writeSample e.role ((s.sample e.role).after e (c.scan.limitsOf e.role) (e.codes conversions))
      s.advanceScan c.scan.entries.length
    else s
  | _, _ => s

/-- R156: the entries a new list leaves: a role that it does not map becomes NEVER. -/
def Scan.remapped (x : Scan) (c : ScanSettings) : Scan :=
  { table := Vector.ofFn (fun k : Fin 14 =>
      if c.entries.any (fun e => e.role.index = k) then x.table[k] else Sample.never)
    index := 0, passNumber := x.passNumber, busy := false }

/-- R156: the restart by an APPLY SETTINGS whose settings are active. It is no strobe, so the page keeps the Scan Index and the
out-of-range set of the last one until the first strobe of the new list completes (the model's choice, assumption log 77). -/
def State.restartScan (s : State) : State :=
  let c := s.active.scan
  let s := s.setScan (s.scan.remapped c)
  let s := if s.scan.allIn then s.reportAbsent .scanRoleRange else s
  s.setTimers { s.timers with strobe := s.after c.strobePeriod }

/-- R151: the Scan Unit after a board reset or a soft restart. -/
def State.resetScan (s : State) : State :=
  let s := s.setScan Scan.initial
  s.setTimers { s.timers with strobe := s.settings.map (fun c => s.us + c.scan.strobePeriod) }

/-- STROBE (R152). -/
def execStrobe (s : State) : Host.Outcome State Fault Refusal := .next s.strobe

/-- STROBE_COMPLETION (R153). -/
def execStrobeCompletion (conversions : List Conversion) (s : State) : Host.Outcome State Fault Refusal :=
  .next (s.completeStrobe conversions)

end Sys2Proof.Machine
end

