-- ==== Sys2Proof/Machine/TraceRecorder.lean ====
section
/-! DEFINITION. The Trace Recorder: records, halves, losses and restarts (R196, R197). -/

namespace Sys2Proof.Machine

/-- R184: the word offset of the current half; its first word is the release word. -/
def Trace.base (x : Trace) : Nat := if x.halfB then 0x1800 else 0x1000

/-- R196: how many records a half holds. -/
def TraceSettings.capacity (c : TraceSettings) : Nat := 2047 / (1 + c.selections.length)

/-- R192, R196: the recorder writes its own items of the Status Page. -/
def State.writeTraceItems (s : State) : State :=
  let x := s.trace
  s.writeWords 0x02F8 [if x.halfB then 1 else 0, BitVec.ofNat 16 x.index, BitVec.ofNat 16 x.lost]

/-- R196: a record goes into a FREE half, at the next index; a half that is full is handed over. -/
def State.storeRecord (s : State) (c : TraceSettings) (record : List Word) : State :=
  let x := s.trace
  let s := s.writeWords (x.base + 1 + (1 + c.selections.length) * x.index) record
  let s := if x.overrun then s.reportAbsent .traceOverrun else s
  if c.capacity ≤ x.index + 1 then
    let s := (s.writeWords x.base [1]).raiseCause .traceHalf
    s.setTrace { x with halfB := !x.halfB, index := 0, overrun := false }
  else s.setTrace { x with index := x.index + 1, overrun := false }

/-- R196: a record that finds its half not FREE is discarded. -/
def State.loseRecord (s : State) : State :=
  let x := s.trace
  let s := if x.overrun then s else s.reportPresent .traceOverrun
  s.setTrace { x with lost := saturate 65535 (x.lost + 1), overrun := true }

/-- R196: one record formed. The part reads the release word of the current half as it stands. -/
def State.formRecord (s : State) (c : TraceSettings) (values : Nat → Int) : State :=
  let record := BitVec.ofNat 16 s.now :: c.selections.map (fun k => wordOf (values k))
  (if s.readWord s.trace.base = 0 then s.storeRecord c record else s.loseRecord).writeTraceItems

/-- R42, R196: a governor frame handed to the recorder, with the published value of each quantity. -/
def State.recordFrame (s : State) (values : Nat → Int) : State :=
  let c := s.active.trace
  if c.enable then
    let n := s.trace.frameCount + 1
    if c.divider ≤ n then (s.setTrace { s.trace with frameCount := 0 }).formRecord c values
    else s.setTrace { s.trace with frameCount := n }
  else s

/-- R197: the restart by an APPLY SETTINGS keeps the lost count. -/
def State.restartTrace (s : State) : State :=
  (s.setTrace { Trace.initial with lost := s.trace.lost }).reportAbsent .traceOverrun

/-- R197: the restart by a reset. -/
def State.resetTrace (s : State) : State := (s.setTrace Trace.initial).reportAbsent .traceOverrun

end Sys2Proof.Machine
end

