-- ==== Sys2Proof/Machine/StatusPage.lean ====
section
/-! DEFINITION. The Status Page and the quantities of the trace: what a governor frame publishes (R20, R41, R73, R74, R84, R104,
R124, R148, R162, R172, R183, R192, R193, R196). -/

namespace Sys2Proof.Machine

/-! ## The stage values of a governor frame (R23, R41) -/

/-- R41: one wheel's stage values. -/
structure WheelValues where
  p : Int
  r : Int
  u : Int
  slip : Int
  corr : Int
  target : Int
  q : Int
  deriving DecidableEq, Repr

/-- R41: the stage values of a frame. -/
structure FrameValues where
  t : Int
  e : Int
  i : Int
  s : Int
  rq : Int
  pq : Int
  left : WheelValues
  right : WheelValues
  deriving DecidableEq, Repr

/-! ## The regions of the page -/

/-- R193: a direction. -/
def Direction.item (d : Direction) : Item := .byte d.code

/-- R139: a station's reply age in ms, saturating at 65535, and 65535 while no reply has been accepted. The ages go on growing
between publications (R141), so they are taken at the frame (assumption log 26). -/
def Station.age (x : Station) (now : Nat) : Nat :=
  match x.lastAccepted with
  | none => 65535
  | some t => saturate 65535 (elapsed now t)

/-- R20: the Drive Mode record and the five limits with their binding rows. -/
def State.leadItems (s : State) : List Item :=
  let l := s.drive.limits
  [.byte s.drive.mode.code, .two s.drive.since, .byte (faultNumber s.drive.tripCause), .int l.ls, .byte l.lsRow, .int l.pl,
   .byte l.plRow, .int l.pr, .byte l.prRow, .int l.rl, .byte l.rlRow, .int l.rr, .byte l.rrRow]

/-- R20: the seventeen rows. -/
def State.rowItems (s : State) : List Item :=
  s.rows.toList.flatMap fun r => [Item.flag r.active, .int r.value, .two r.since, .int r.changes]

/-- R41: a wheel's stage values. -/
def WheelValues.items (w : WheelValues) : List Item :=
  [.int w.p, .int w.r, .int w.u, .int w.slip, .int w.corr, .int w.target, .int w.q]

/-- R41, R84: the governing items, then Over Since. R41 lists each wheel's seven stage values, the two torques with their ages and the
flags without an order of the wheels: all seven of the left wheel stand before those of the right, and the two replies' torques with
their ages before their flags (the model's choice, assumption log 27). -/
def State.governingItems (s : State) (f : FrameValues) : List Item :=
  let l := s.torqueReply .inverterL
  let r := s.torqueReply .inverterR
  let overFor : Nat := match s.drive.overSince with
    | none => 0
    | some t => elapsed s.now t
  [s.drive.held.item, s.exchange.slate.direction.item, .byte s.drive.travel.code,
   .int f.t, .int f.e, .int f.i, .int f.s, .int f.rq, .int f.pq] ++
  f.left.items ++ f.right.items ++
  [.int l.torque, .int ((s.station .inverterL).age s.now), .int r.torque, .int ((s.station .inverterR).age s.now),
   .flag l.derated, .flag l.ready, .flag r.derated, .flag r.ready,
   .int s.speed.v, .byte s.speed.mark.code, .int (s.channel .frontL).speed, .int (s.channel .frontR).speed,
   .int (s.channel .rearL).speed, .int (s.channel .rearR).speed,
   .int s.published.steer.kL, .int s.published.steer.kR, .flag s.drive.gate, .int overFor]

/-- R73: a bank's items. The Trip History has three places (assumption log 28). Blower Since, which R73's list leaves out, is not
among them (assumption log 53). -/
def Bank.items (b : Bank) : List Item :=
  let entry : Nat → Item := fun k => .two (b.tripHistory.getD k 0)
  [.byte b.stage.code, .int b.theta, .flag b.modelRunning, .int b.duty, .int b.meanDuty, .int b.meanPower, .int b.derate,
   .byte b.tripHistory.length, entry 0, entry 1, entry 2, .byte (optionCode BankTrip.code b.lastTripCause),
   .flag b.circuitFailed, .flag b.airOver, .flag b.blowerDemand, .flag b.blowerRunning]

/-- R73, R74: the Grid Manager's items, all of bank A's before bank B's (the model's reading, assumption log 27), then the descent
record as it stands after the last thermal frame (R84). -/
def State.gridItems (s : State) : List Item :=
  let g := s.published.grid
  let d := s.grid.descent
  g.bankA.items ++ g.bankB.items ++ [.int g.dutyTotal, .int g.v, .flag g.ovHigh, .int g.pAvail] ++
  [.byte d.condition.code, .int d.gradeUsed, .int d.effectiveGrade, .int d.grossMassUsed, .int d.powerUsed, .int d.value]

/-- R104: the Steering Servo's items. -/
def State.steerItems (s : State) : List Item :=
  let x := s.published.steer
  [.byte x.state.code, .byte (faultNumber x.failCause), .byte x.source.code, .int x.sourceDemand, .int x.maxAngle,
   .int x.limitedDemand, .int x.step, .int x.target, .int x.measured, .int x.flow, .int s.valveReply.spool,
   .flag s.valveReply.pump, .int s.published.trackTime, .flag x.supplyLow, .int x.supplyRead, .int x.accumulatorRead,
   .int x.reserveStrokes, .int x.kL, .int x.kR, .int x.curveAngle, .int x.fraction, .int x.ce, .int x.cl]

/-- R124: a wheel's motor items. -/
def MotorPublication.items (m : MotorPublication) (absent : Nat) : List Item :=
  [.two m.budget.toNat, .two m.budgetMax.toNat, .flag m.held,
   (match m.winding with
    | some t => .int t
    | none => .word (Config.absentItem absent)),
   .int m.propelCap, .int m.retardCap]

/-- R124: the Load Monitor's items, then the left and right wheel. The TARE LOAD sample count reads 0 while Tare Progress is
none (assumption log 57). -/
def State.loadItems (s : State) : List Item :=
  let x := s.published.load
  [.byte x.cycle.code, .int x.sprungMass, .int x.livePayload, .int x.tare, .flag x.tareSet, .flag x.emptyConfirmed,
   .byte x.weighBuffer.length,
   if x.weighBuffer.isEmpty then .word (Config.absentItem 2) else .int (floorMean x.weighBuffer),
   .int x.latchedPayload, .flag x.latchedUnweighed, .int x.payloadUsed, .flag x.unweighed, .int x.ratio,
   .byte x.loadClass.code, .int x.cycleCount,
   .byte (match x.tareProgress with
     | some p => p.1
     | none => 0),
   .int x.pressFL, .int x.pressFR, .int x.pressRL, .int x.pressRR] ++
  s.published.motorL.items 0 ++ s.published.motorR.items 1

/-- R148: a station's items. -/
def Station.items (x : Station) (now : Nat) : List Item :=
  [.byte x.state.code, .byte x.counter, .byte x.goodRun, .byte x.missRun, .byte (optionCode Reason.code x.lastReason),
   .int x.totals.good] ++
  x.totals.bad.toList.map (fun (n : Nat) => Item.int n) ++ [.int (x.age now)]

/-- R148: the four stations, 16 words each. -/
def State.stationWords (s : State) : List Word :=
  s.published.link.stations.toList.flatMap (fun x => region 16 (x.items s.now))

/-- R148: the link-wide items. -/
def State.linkItems (s : State) : List Item :=
  let x := s.published.link
  [.flag (!x.enabled), .flag x.haltPending, .flag x.stuck, .byte x.pollIndex, .int x.overrunCount, .int x.unsolicitedCount]

/-- R172: the Supervision Monitor's items. -/
def State.supervisionItems (s : State) : List Item :=
  let x := s.published.supervision
  [.byte x.window.code, .int s.published.windowTime, .byte x.failureCount, .byte x.goodCount,
   .flag (decide (3 ≤ x.goodCount)), .byte (optionCode FailureKind.code x.lastFailure), .two x.lastFailureTime,
   .flag x.decayRunning]

/-- R183: the generator's items; bank A's duty stands before bank B's (the model's reading, assumption log 27). -/
def State.selfLoadItems (s : State) : List Item :=
  let x := s.published.selfLoad
  [.byte x.phase.code, .int x.stepIndex, .int x.stepLevel, .int s.published.phaseTime, .int x.givenA, .int x.givenB,
   .int x.stepsRun, .byte x.header.testState.code, .byte (optionCode AbortCause.code x.header.abortCause),
   .int x.header.stepsRun, .byte x.header.recorded, .int x.header.unrecorded]

/-- R192: the fourteen roles. -/
def State.roleItems (s : State) : List Item :=
  s.scan.table.toList.flatMap fun x =>
    [Item.byte x.state.code, .byte (optionCode OutCause.code x.outCause), .int x.value, .int x.lastRead]

/-- R192: the pass number, the Scan Index and the out-of-range set. -/
def State.scanItems (s : State) : List Item :=
  [.int s.published.passNumber, .byte s.published.scanIndex, .word s.published.outSet]

/-- R192: the four channels, then v and its mark. -/
def State.channelItems (s : State) : List Item :=
  s.speed.channels.toList.flatMap (fun x => [Item.byte x.state.code, .int x.speed, .int x.glitches]) ++
  [.int s.speed.v, .byte s.speed.mark.code]

/-- R192: the words from 0x0141 to 0x02F7, every region at its place. -/
def State.pageWords (s : State) (f : FrameValues) : List Word :=
  region 14 s.leadItems ++ region 85 s.rowItems ++ region 48 (s.governingItems f) ++ region 64 s.gridItems ++
  region 32 s.steerItems ++ region 40 s.loadItems ++ s.stationWords ++ region 8 s.linkItems ++
  region 8 s.supervisionItems ++ region 16 s.selfLoadItems ++ region 42 s.roleItems ++ region 3 s.scanItems ++
  region 14 s.channelItems ++ [BitVec.ofNat 16 s.exchange.torn]

/-- R192: the page is written between a new Lead Stamp and the same Trail Stamp; the trace items are the recorder's. -/
def State.writePage (s : State) (f : FrameValues) : State :=
  let stamp := s.drive.pageStamp + 1
  let s := s.setDrive { s.drive with pageStamp := stamp }
  let s := s.writeWords 0x0140 [stamp]
  let s := s.writeWords 0x0141 (s.pageWords f)
  s.writeWords 0x02FB [0, 0, 0, 0, stamp]

/-! ## The trace quantities (R196) -/

/-- R192: B in ‰ of Bmax. Before a wheel's first reply, with B and the published Bmax both 0, it is 0 (assumption log 58). -/
def MotorPublication.permille (m : MotorPublication) : Int := 1000 * m.budget / m.budgetMax

/-- R196: the published value of a quantity, by its number. -/
def State.traceValue (s : State) (f : FrameValues) (k : Nat) : Int :=
  let l := s.drive.limits
  let p := s.published
  let miss : StationId → Int := fun n => p.link.stations[n.index].missRun
  match k with
  | 1 => l.ls
  | 2 => l.pl
  | 3 => l.pr
  | 4 => l.rl
  | 5 => l.rr
  | 6 => l.lsRow
  | 7 => f.left.q
  | 8 => f.right.q
  | 9 => s.speed.v
  | 10 => (s.channel .frontL).speed
  | 11 => (s.channel .frontR).speed
  | 12 => (s.channel .rearL).speed
  | 13 => (s.channel .rearR).speed
  | 14 => s.roleValue .dcLinkVoltage
  | 15 => p.grid.bankA.theta
  | 16 => p.grid.bankB.theta
  | 17 => p.grid.bankA.duty
  | 18 => p.grid.bankB.duty
  | 19 => p.grid.pAvail
  | 20 => p.steer.target
  | 21 => p.steer.measured
  | 22 => p.steer.flow
  | 23 => p.load.livePayload
  | 24 => p.load.payloadUsed
  | 25 => p.motorL.permille
  | 26 => p.motorR.permille
  | 27 => miss .inverterL
  | 28 => miss .inverterR
  | 29 => miss .chopper
  | 30 => miss .valve
  | 31 => p.supervision.failureCount
  | 32 => (s.row .fallbackSpeed).value
  | _ => 0

end Sys2Proof.Machine
end

