-- ==== Sys2Proof/Machine/DriveGovernor.lean ====
section
/-! DEFINITION. The Drive Governor's frame: direction, limits, the seven stages and RETARD INSUFFICIENT (R16, R18, R19, R22 to
R42, R82 to R84). -/

namespace Sys2Proof.Machine

/-! ## Direction (R25, R26) -/

/-- R25: the travel sense that a held direction asks for. -/
def Direction.sense (d : Direction) (old : TravelSense) : TravelSense :=
  match d with
  | .neutral => old
  | .forward => .forward
  | .reverse => .reverse

/-- R25, R26: the direction is settled; a changed travel sense in ARMED zeroes the integrator and the ramp's origin. -/
def State.settleDirection (s : State) : State :=
  let d := s.drive
  let asked := s.exchange.slate.direction
  if d.mode = .fallback ∨ asked = d.held ∨ 5 ≤ s.groundSpeed then s
  else
    let sense := asked.sense d.travel
    let s := s.setDrive { d with held := asked, travel := sense }
    if sense ≠ d.travel ∧ d.mode = .armed then
      s.setDrive { s.drive with integrator := 0, qL := 0, qR := 0 }
    else s

/-! ## Rows 1, 8 and 13 and the effective limits (R16, R18, R19) -/

/-- R16: the Drive Governor's three rows. -/
def State.writeCeilings (s : State) : State :=
  let c := s.inForce.ceilings
  let speed := if s.drive.held = .reverse then c.reverseSpeed else c.forwardSpeed
  let s := s.writeRow .speedCeiling true (some speed)
  let s := s.writeRow .propelCeiling true (some c.propel)
  s.writeRow .retardCeiling true (some c.retard)

/-- R18: the lowest of some rows, with the first row that holds it; row 0 where there is none. -/
def lowest : List (Nat × Int) → Int × Nat
  | [] => (0, 0)
  | (n, v) :: rest =>
    let best := lowest rest
    if best.2 = 0 ∨ v ≤ best.1 then (v, n) else best

/-- R18: the active rows of a quantity that cover a wheel, in ascending row number. -/
def State.activeRows (s : State) (q : Quantity) (w : Wheel) : List (Nat × Int) :=
  (RowId.all.filter (fun r => r.quantity = q && r.covers w && (s.row r).active)).map
    (fun r => (r.number, (s.row r).value))

/-- R18: the five effective limits. With Forward Speed Ceiling set below Reverse Speed Ceiling, a descent row at the forward ceiling
binds in REVERSE as R18's minimum says, although R79 says that it does not bind there (the model's choice, assumption log 74). -/
def State.effectiveLimits (s : State) : Limits :=
  let speed := lowest (s.activeRows .speed .left)
  let pl := lowest (s.activeRows .propel .left)
  let pr := lowest (s.activeRows .propel .right)
  let rl := lowest (s.activeRows .retard .left)
  let rr := lowest (s.activeRows .retard .right)
  { ls := speed.1, lsRow := speed.2, pl := pl.1, plRow := pl.2, pr := pr.1, prRow := pr.2, rl := rl.1, rlRow := rl.2,
    rr := rr.1, rrRow := rr.2 }

/-- R18, R19: the limits are taken for the frame, and LIMIT set where the binding row of Ls has changed. -/
def State.takeLimits (s : State) : State :=
  let l := s.effectiveLimits
  let changed : Bool := l.lsRow ≠ s.drive.limits.lsRow
  let s := s.setDrive { s.drive with limits := l }
  if changed then s.raiseCause .limit else s

/-! ## RETARD INSUFFICIENT (R82) -/

/-- R82: the judgement of a frame whose mode drives. -/
def State.judgeOverspeed (s : State) : State :=
  let tooFast : Bool := s.drive.limits.ls + s.inForce.descent.overspeedMargin < s.groundSpeed
  if tooFast then
    match s.drive.overSince with
    | none => s.setDrive { s.drive with overSince := some s.now }
    | some t =>
      if elapsed s.now t < 2000 ∨ (s.fault .retardInsufficient).active then s
      else s.reportPresent .retardInsufficient s.drive.limits.lsRow
  else (s.setDrive { s.drive with overSince := none }).reportAbsent .retardInsufficient

/-- R82: in every other mode Over Since is emptied and the fault reported absent. -/
def State.endOverspeed (s : State) : State :=
  (s.setDrive { s.drive with overSince := none }).reportAbsent .retardInsufficient

/-! ## The stages (R24, R27 to R36) -/

/-- R24, R26, R39: Dp. -/
def State.propelDemand (s : State) : Int :=
  let d := s.drive
  let slate := s.exchange.slate
  if d.mode = .fallback ∨ d.gate ∨ d.held = .neutral ∨ slate.direction ≠ d.held then 0 else slate.propel

/-- R24: Dr. -/
def State.retardDemand (s : State) : Int := if s.drive.mode = .fallback then 0 else s.exchange.slate.retard

/-- R27: the target speed. -/
def State.targetSpeed (s : State) : Int :=
  let h := if s.drive.mode = .fallback then 0 else s.exchange.slate.speedHold
  if 0 < h then min s.drive.limits.ls h else s.drive.limits.ls

/-- R28, R29: the overspeed controller: I and S. -/
def overspeedControl (kp ki v t old retardLimit : Int) : Int × Int :=
  let iOld := if v = 0 then 0 else old
  let e := v - t
  let i1 := clamp 0 1000 (iOld + ki * e / 16)
  let s1 := clamp 0 1000 (kp * e / 8 + i1)
  if retardLimit < s1 then
    let i := min i1 iOld
    (i, clamp 0 1000 (kp * e / 8 + i))
  else (i1, s1)

/-- R30: the net request: Rq and Pq. -/
def netRequest (s dr dp t v : Int) : Int × Int :=
  if 0 < s ∨ 0 < dr then (max dr s, 0)
  else if 10 ≤ t - v then (0, dp)
  else (0, dp * max 0 (t - v) / 10)

/-- R33: the slip of a wheel. -/
def slipOf (p r w u : Int) : Int :=
  if 0 < p then max 0 ((w - u) * 1000 / max u 20)
  else if 0 < r then max 0 ((u - w) * 1000 / max u 20)
  else 0

/-- R34: the correction of a wheel. -/
def correct (c : GoverningSettings) (slip old : Int) : Int :=
  if c.slipThreshold < slip then max c.cMin (old - c.cutStep) else min 1000 (old + c.recoverStep)

/-- R36: the command of a wheel: the ramp, then the clamp to its limits. -/
def rampCommand (ramp target old propelLimit retardLimit : Int) : Int :=
  let moved :=
    if magnitude (target - old) ≤ ramp then target else if old < target then old + ramp else old - ramp
  clamp (-retardLimit) propelLimit moved

/-- R31 to R36: stages 4 to 6 of one wheel. Under a degraded reference the slip is 0 and the correction is kept (R35). -/
def wheelStages (c : GoverningSettings) (degraded : Bool) (pq rq propelLimit retardLimit v k w oldCorr oldQ : Int) :
    WheelValues :=
  let p := min pq propelLimit
  let r := min rq retardLimit
  let u := v * k / 1000
  let slip := if degraded then 0 else slipOf p r w u
  let corr := if degraded then oldCorr else correct c slip oldCorr
  let target := p * corr / 1000 - r * corr / 1000
  { p := p, r := r, u := u, slip := slip, corr := corr, target := target
    q := rampCommand c.ramp target oldQ propelLimit retardLimit }

/-- R27 to R36: stages 1 to 6 of a frame in ARMED or FALLBACK. -/
def State.driveStages (s : State) : FrameValues :=
  let c := s.inForce.governing
  let d := s.drive
  let l := d.limits
  let v := s.groundSpeed
  let t := s.targetSpeed
  let control := overspeedControl c.kp c.ki v t d.integrator (min l.rl l.rr)
  let request := netRequest control.2 s.retardDemand s.propelDemand t v
  let degraded : Bool := s.speed.mark = .degraded
  { t := t, e := v - t, i := control.1, s := control.2, rq := request.1, pq := request.2
    left := wheelStages c degraded request.2 request.1 l.pl l.rl v s.published.steer.kL (s.channel .rearL).speed d.corrL d.qL
    right := wheelStages c degraded request.2 request.1 l.pr l.rr v s.published.steer.kR (s.channel .rearR).speed d.corrR
      d.qR }

/-- R23: the published stage values of a frame that does not run stages 2 to 6. T is published but in UNCONFIGURED; e, u and
Q* have no stated value there and are free (assumption log 8). -/
def State.idleStages (s : State) : FrameValues :=
  let free : Nat → Int := Config.unrunStage s.freeCount
  let wheel : Nat → Nat → WheelValues := fun u target =>
    { p := 0, r := 0, u := free u, slip := 0, corr := 1000, target := free target, q := 0 }
  { t := if s.drive.mode = .unconfigured then free 0 else s.targetSpeed
    e := free 1, i := 0, s := 0, rq := 0, pq := 0, left := wheel 2 4, right := wheel 3 5 }

/-- R28, R34, R36, R38, R39: the frame's results are kept and the records written. -/
def State.keepFrame (s : State) (f : FrameValues) (driving : Bool) : State :=
  let gate : Bool := s.drive.gate && !(s.drive.mode = .armed && s.exchange.slate.propel = 0)
  let s := s.setDrive { s.drive with
    integrator := f.i, corrL := f.left.corr, corrR := f.right.corr, qL := f.left.q, qR := f.right.q, gate := gate }
  s.writeTorqueRecords f.left.q f.right.q driving

/-! ## The frame (R22, R23) -/

/-- R22, R25, R16, R18: what precedes the stages, in every mode except UNCONFIGURED. -/
def State.openFrame (s : State) : State :=
  if s.drive.mode = .unconfigured then s.setDrive { s.drive with limits := Limits.none }
  else s.settleDirection.writeCeilings.takeLimits

/-- R22: one governor frame, taken whole. -/
def State.governorFrame (s : State) : State :=
  let driving : Bool := s.drive.mode = .armed || s.drive.mode = .fallback
  let s := s.setTimers { s.timers with governor := s.again s.timers.governor s.timers.governorPeriod }
  let s := s.openFrame
  let s := if driving then s.judgeOverspeed else s.endOverspeed
  let f := if driving then s.driveStages else s.idleStages
  let s := (s.keepFrame f driving).writePage f
  (s.recordFrame (s.traceValue f)).drawFree

/-- GOVERNOR_FRAME (R22). -/
def execGovernorFrame (s : State) : Host.Outcome State Fault Refusal := .next s.governorFrame

end Sys2Proof.Machine
end

