-- ==== Sys2Proof/Machine/GridManager.lean ====
section
/-! DEFINITION. The Grid Manager: the DC-link frame, the thermal frame, stages, trips and lockout, the descent row and
RESET LOCKOUT (R45 to R81). -/

namespace Sys2Proof.Machine

/-- The two banks, A first. -/
def banks : List BankId := [.a, .b]

/-- An operation on both banks, bank A first. -/
def State.forBanks (s : State) (f : State → BankId → State) : State := f (f s .a) .b

/-- The outlet-air role of a bank. -/
def BankId.airRole : BankId → Role
  | .a => .bankAAir
  | .b => .bankBAir

/-- The BANK x FAULT flag of the last good CHOPPER REPLY. -/
def State.bankFaultFlag (s : State) : BankId → Bool
  | .a => s.chopperReply.faultA
  | .b => s.chopperReply.faultB

/-! ## Stages and trips (R48 to R51) -/

/-- R48: the offline condition. -/
def State.offlineCondition (s : State) (k : BankId) : Bool :=
  !(s.bankSettings k).enabled || !s.present .chopper || !s.chopperReply.ready

/-- R48: the Stage a bank is settled to. -/
def State.settledStage (s : State) (k : BankId) : Stage :=
  let b := s.bank k
  if s.offlineCondition k then .offline
  else if !b.modelRunning || b.theta < (s.bankSettings k).warnTheta then .ready
  else .derated

/-- R48: the settling of a bank; one in TRIPPED or LOCKED OUT keeps its Stage. -/
def State.settleBank (s : State) (k : BankId) : State :=
  let b := s.bank k
  match b.stage with
  | .ready | .derated | .offline => s.setBank k { b with stage := s.settledStage k }
  | .tripped | .lockedOut => s

/-- R49: the Trip History without the entries older than the Lockout Window. -/
def State.prunedHistory (s : State) (k : BankId) : List Nat :=
  (s.bank k).tripHistory.filter (fun t => elapsed s.now t ≤ 1000 * s.inForce.grids.lockoutWindow)

/-- R49: a bank trip, taken in its five steps. -/
def State.tripBank (s : State) (k : BankId) (c : BankTrip) : State :=
  let history := s.prunedHistory k ++ [s.now]
  let b := { s.bank k with tripHistory := history, lastTripCause := some c }
  let s :=
    if 3 ≤ history.length then (s.setBank k { b with stage := .lockedOut }).reportPresent k.lockoutCode
    else s.setBank k { b with stage := .tripped }
  s.reportPresent k.tripCode c.code

/-- R49: the CHOPPER cause, found at a DC-link frame. -/
def State.checkChopperTrip (s : State) (k : BankId) : State :=
  if (s.bank k).available ∧ s.bankFaultFlag k then s.tripBank k .chopper else s

/-- R50: whether a TRIPPED bank returns. -/
def State.mayReturn (s : State) (k : BankId) : Bool :=
  let b := s.bank k
  b.theta ≤ (s.bankSettings k).restartTheta && !b.airOver && !b.circuitFailed &&
    (!s.bankFaultFlag k || !s.present .chopper)

/-- R50: the return of a TRIPPED bank, settled by R48, with BANK x TRIP reported absent. -/
def State.returnBank (s : State) (k : BankId) : State :=
  if (s.bank k).stage = .tripped ∧ s.mayReturn k then
    (s.setBank k { s.bank k with stage := s.settledStage k }).reportAbsent k.tripCode
  else s

/-- R51: whether a cause is still present at a RESET LOCKOUT. -/
def State.lockoutCause (s : State) (k : BankId) : Bool :=
  let b := s.bank k
  (s.bankSettings k).restartTheta < b.theta || b.airOver || b.circuitFailed || s.bankFaultFlag k

/-- R51: RESET LOCKOUT handed to the Grid Manager. The Detail of CAUSE ACTIVE is the cause's fault code that is Active, where
there is one (BANK x AIR OVERTEMP), otherwise 0 (assumption log 17). -/
def State.handResetLockout (s : State) (o : HeldOrder) : State :=
  let decideBank : BankId → State := fun k =>
    if (s.bank k).stage ≠ .lockedOut then s.complete o.slot .done
    else if s.lockoutCause k then
      s.complete o.slot .causeActive [if (s.fault k.airCode).active then BitVec.ofNat 16 k.airCode.number else 0]
    else
      let s := s.setBank k { s.bank k with tripHistory := [], lastTripCause := none, stage := s.settledStage k }
      let s := (s.reportAbsent k.lockoutCode).reportAbsent k.tripCode
      s.complete o.slot .done
  match (o.argument 0).toNat with
  | 0 => decideBank .a
  | 1 => decideBank .b
  | _ => s.complete o.slot .badArgument [0]

/-! ## Derate and available power (R61, R62) -/

/-- R61: D_b of a DERATED bank before any blower reduction. Where R48 has settled a bank DERATED with θ at Trip θ or above, R61's
formula leaves the range that R61 and R46 give, and the value is free in [1, 1000] (assumption log 51). -/
def deratedShare (theta warn trip : Int) : Int :=
  if theta < trip then 1000 * (trip - theta) / (trip - warn) else clamp 1 1000 (Config.overTripDerate theta warn trip)

/-- R61: a bank's Derate. -/
def State.derateOf (s : State) (k : BankId) : Int :=
  let b := s.bank k
  let c := s.bankSettings k
  let d := match b.stage with
    | .ready => 1000
    | .derated => deratedShare b.theta c.warnTheta c.tripTheta
    | .tripped | .lockedOut | .offline => 0
  if (s.fault k.blowerCode).active then d * c.noBlower / 1000 else d

/-- R61, R62: both Derates and P_avail. -/
def State.computePower (s : State) : State :=
  let s := s.forBanks (fun s k => s.setBank k { s.bank k with derate := s.derateOf k })
  let share : BankId → Int := fun k => (s.bankSettings k).ratedPower * (s.bank k).derate / 1000
  s.setGrid { s.grid with pAvail := min s.inForce.grids.inverterRetardMax (share .a + share .b) }

/-! ## The DC-link frame (R45, R63 to R70) -/

/-- R53, R63: step 1: V is read, and the role readings are added to the sums. In a frame with the role NEVER, as after an APPLY SETTINGS
that no longer maps it, V keeps its last VALID value, or the 0 of the reset (the model's choice, assumption log 61). -/
def State.readLink (s : State) : State :=
  let g := s.grid
  let add : Role → Int → Int := fun r sum => if s.roleValid r then sum + s.roleValue r else sum
  s.setGrid { g with
    v := if s.roleValid .dcLinkVoltage then s.roleValue .dcLinkVoltage else g.v
    sums := { g.sums with
      v := add .dcLinkVoltage g.sums.v
      iA := add .bankACurrent g.sums.iA
      iB := add .bankBCurrent g.sums.iB
      vInvalid := g.sums.vInvalid || !s.roleValid .dcLinkVoltage
      iAInvalid := g.sums.iAInvalid || !s.roleValid .bankACurrent
      iBInvalid := g.sums.iBInvalid || !s.roleValid .bankBCurrent } }

/-- R68: in HIGH, OV Persist reached reports DC LINK OVERVOLTAGE present, once per episode; R180: it aborts a test. -/
def State.persistOvervoltage (s : State) : State :=
  if s.grid.ovHigh && !s.grid.ovReported && decide (s.inForce.grids.ovPersist ≤ elapsed s.now s.grid.ovEntry) then
    let s := s.setGrid { s.grid with ovReported := true }
    (s.reportPresent .dcLinkOvervoltage).abortTest .overvoltage
  else s

/-- R68: after a board reset or a soft restart, the first frame with V VALID restores row 17 while DC LINK OVERVOLTAGE is
still Latched and OV Latch is YES; the row is then held until the record is cleared. -/
def State.recheckOvervoltage (s : State) : State :=
  let c := s.inForce.grids
  if s.grid.ovRecheck then
    let s := s.setGrid { s.grid with ovRecheck := false }
    if c.ovLatch ∧ (s.fault .dcLinkOvervoltage).latched then
      (s.setGrid { s.grid with ovHeld := true }).writeRow .linkOvervoltageRetard true (some c.retardOvCap)
    else s
  else s

/-- R68: row 17 on the return to NORMAL: it is held after an episode that reached OV Persist with OV Latch YES, stays while an
earlier episode or a restoring holds it, and is otherwise inactive. That the earlier hold outlasts a short episode, and also one that
reached OV Persist after OV Latch was set to NO, is the model's reading (assumption log 32). -/
def State.settleOvervoltageRow (s : State) : State :=
  if s.grid.ovReported ∧ s.inForce.grids.ovLatch then s.setGrid { s.grid with ovHeld := true }
  else if s.grid.ovHeld then s
  else s.writeRow .linkOvervoltageRetard false none

/-- R67, R68: the overvoltage state at a frame with V VALID. Row 17 takes Retard OV Cap as an episode begins, and its Value does not
follow a cap changed later (the model's choice, assumption log 66). The state is settled before OV Persist is compared: a frame that
finds V low ends the episode without raising the fault, also where OV Persist has elapsed by then (the model's choice, assumption
log 67). -/
def State.judgeOvervoltage (s : State) : State :=
  let c := s.inForce.grids
  let g := s.grid
  if !g.ovHigh then
    if c.vOv ≤ g.v then
      (s.setGrid { g with ovHigh := true, ovEntry := s.now, ovReported := false }).writeRow .linkOvervoltageRetard true
        (some c.retardOvCap)
    else s
  else if g.v < c.vOv - c.ovHysteresis then
    ((s.setGrid { g with ovHigh := false }).reportAbsent .dcLinkOvervoltage).settleOvervoltageRow
  else s.persistOvervoltage

/-- R69: row 12 and DC LINK UNDERVOLTAGE at a frame with V VALID. -/
def State.judgeUndervoltage (s : State) : State :=
  let c := s.inForce.grids
  let v := s.grid.v
  let s :=
    if v < c.vUv then
      s.writeRow .linkUndervoltagePropel true (some (1000 * max 0 (v - c.vMin) / (c.vUv - c.vMin)))
    else s.writeRow .linkUndervoltagePropel false none
  s.report .dcLinkUndervoltage (v < c.vMin && s.drive.mode = .armed)

/-- R63, R67 to R69: step 2. Outside VALID nothing is entered or left, and a persistence time goes on running. -/
def State.judgeLinkVoltage (s : State) : State :=
  if s.roleValid .dcLinkVoltage then s.recheckOvervoltage.judgeOvervoltage.judgeUndervoltage
  else s.persistOvervoltage

/-- R70: row 14. -/
def State.writeGridCapacity (s : State) : State :=
  s.writeRow .gridCapacity true
    (some (min 1000 (36000 * s.grid.pAvail / (s.inForce.grids.ratedRimForce * max s.groundSpeed 20))))

/-- R63, R64, R72: step 6. In SELF-LOAD D is held at 0; without a reading it is 0; out of range it is only cut. -/
def State.regulate (s : State) (testing : Bool) : State :=
  let g := s.grid
  let c := s.inForce.grids
  let top := g.bankA.derate + g.bankB.derate
  let d :=
    if testing then 0
    else match (s.sample .dcLinkVoltage).state with
      | .valid => clamp 0 top (g.dutyTotal + c.kv * (g.v - c.vRef) / 64)
      | .outOfRange => min g.dutyTotal top
      | .never => 0
  s.setGrid { g with dutyTotal := d }

/-- R65: D distributed over the available banks up to their caps. -/
def distribute (d : Int) (a b : Bank) : Int × Int :=
  let n : Int := (if a.available then 1 else 0) + (if b.available then 1 else 0)
  if n = 0 then (0, 0)
  else
    let a1 := if a.available then min (d / n) a.derate else 0
    let b1 := if b.available then min (d / n) b.derate else 0
    let rest := d - a1 - b1
    let moreA := if a.available then min rest (a.derate - a1) else 0
    let moreB := if b.available then min (rest - moreA) (b.derate - b1) else 0
    (a1 + moreA, b1 + moreB)

/-- Both banks' Duty. -/
def State.setDuties (s : State) (a b : Int) : State :=
  s.setGrid { s.grid with
    bankA := { s.grid.bankA with duty := a }, bankB := { s.grid.bankB with duty := b } }

/-- R72: the generator's duty as the Grid Manager takes it: at most cap_b, and 0 for a bank that cannot take duty. -/
def State.testDuty (s : State) (k : BankId) (given : Int) : Int :=
  if (s.bank k).available then min given (s.bank k).derate else 0

/-- R177, R180: the generator's part of a frame of the test: its frame conditions, then its duties and sums. A frame whose
condition aborts the test adds nothing to Step Sums (assumption log 55). -/
def State.generateDuties (s : State) : State :=
  if s.selfLoad.phase = .idle then s.setDuties 0 0
  else match s.frameAbort with
    | some c => (s.abortTest c).setDuties 0 0
    | none =>
      let a := s.patternDuty .a
      let b := s.patternDuty .b
      let s := (s.setSelfLoad { s.selfLoad with givenA := a, givenB := b }).addStepSums
      s.setDuties (s.testDuty .a a) (s.testDuty .b b)

/-- R67: while HIGH every READY or DERATED bank is given duty 1000. -/
def State.forceDuties (s : State) : State :=
  if s.grid.ovHigh then
    let force : Bank → Int := fun b => if b.available then 1000 else b.duty
    s.setDuties (force s.grid.bankA) (force s.grid.bankB)
  else s

/-- R45 step 7: the duties. While the voltage role is NEVER both are 0, without the forcing (R63). The forcing of R67 comes last,
also in a frame that aborts a test while HIGH (assumption log 56). -/
def State.assignDuties (s : State) (testing : Bool) : State :=
  let s :=
    if testing then s.generateDuties
    else
      let d := distribute s.grid.dutyTotal s.grid.bankA s.grid.bankB
      s.setDuties d.1 d.2
  if (s.sample .dcLinkVoltage).state = .never then s.setDuties 0 0 else s.forceDuties

/-- R59: a bank's Blower Demand. -/
def State.demandBlower (s : State) (k : BankId) : State :=
  let b := s.bank k
  let on : Bool :=
    (s.bankSettings k).enabled &&
      (decide (0 < b.duty) || decide (s.inForce.grids.blowerOffTheta < b.theta) || s.asksBlower k)
  s.setBank k { b with blowerDemand := on, blowerSince := if on && !b.blowerDemand then s.now else b.blowerSince }

/-- R60: the judgement of a bank's blower. While station 3 is not PRESENT the condition of an enabled bank keeps its last
reported state. -/
def State.judgeBlower (s : State) (k : BankId) : State :=
  let b := s.bank k
  if !(s.bankSettings k).enabled then s.reportAbsent k.blowerCode
  else if !s.present .chopper then s
  else if b.blowerRunning || !b.blowerDemand then s.reportAbsent k.blowerCode
  else if s.inForce.grids.blowerStartTime ≤ elapsed s.now b.blowerSince then s.reportPresent k.blowerCode
  else s

/-- R66, R53, R73: step 9: the duty sums, station 3's outgoing record and the publication. -/
def State.finishLinkFrame (s : State) : State :=
  let g := s.grid
  let s := s.setGrid { g with sums := { g.sums with
    dutyA := g.sums.dutyA + g.bankA.duty, dutyB := g.sums.dutyB + g.bankB.duty, frames := g.sums.frames + 1 } }
  let s := s.setLink { s.link with outgoing := { s.link.outgoing with
    chopper := { dutyA := g.bankA.duty, dutyB := g.bankB.duty, blowerA := g.bankA.blowerDemand,
                 blowerB := g.bankB.blowerDemand } } }
  s.setPublished { s.published with grid := s.grid }

/-- R45: one DC-link frame, in its nine steps. While Mode is UNCONFIGURED the frame does not run. -/
def State.dcLinkFrame (s : State) : State :=
  if s.drive.mode = .unconfigured then s
  else
    let testing : Bool := s.drive.mode = .selfLoad
    let s := (s.setTimers { s.timers with dcLink := s.again s.timers.dcLink 500 }).readLink
    let s := s.judgeLinkVoltage
    let s := s.forBanks State.settleBank
    let s := s.forBanks State.checkChopperTrip
    let s := s.computePower.writeGridCapacity
    let s := s.regulate testing
    let s := s.assignDuties testing
    let s := (s.forBanks State.demandBlower).forBanks State.judgeBlower
    let s := s.finishLinkFrame
    if testing then s.publishSelfLoad else s

/-! ## The thermal frame (R45, R53 to R58) -/

/-- The means of a thermal frame (R53). -/
structure Means where
  v : Int
  iA : Int
  iB : Int
  dutyA : Int
  dutyB : Int
  deriving DecidableEq, Repr

/-- A bank's mean current. -/
def Means.current (m : Means) : BankId → Int
  | .a => m.iA
  | .b => m.iB

/-- A bank's Mean Duty. -/
def Means.duty (m : Means) : BankId → Int
  | .a => m.dutyA
  | .b => m.dutyB

/-- Whether a bank's current role was invalid in the frame. -/
def GridSums.currentInvalid (x : GridSums) : BankId → Bool
  | .a => x.iAInvalid
  | .b => x.iBInvalid

/-- R53: the means over the frame's DC-link frames. Over no frames at all a mean is free (assumption log 9). -/
def State.thermalMeans (s : State) : Means :=
  let x := s.grid.sums
  let mean : Nat → Int → Int := fun k sum =>
    if x.frames = 0 then Config.emptyMean s.freeCount k else sum / x.frames
  { v := if x.vInvalid then s.grid.lastMeanV else mean 0 x.v
    iA := mean 1 x.iA, iB := mean 2 x.iB, dutyA := mean 3 x.dutyA, dutyB := mean 4 x.dutyB }

/-- R54: a bank's Mean Power. -/
def State.meanPowerOf (s : State) (m : Means) (x : GridSums) (k : BankId) : Int :=
  if x.currentInvalid k then m.v * m.v * m.duty k / ((s.bankSettings k).resistance * 1000)
  else m.v * m.current k / 1000

/-- R53, R54: step 1: the means formed, the sums emptied, the Mean Powers set. -/
def State.formMeans (s : State) (m : Means) (x : GridSums) : State :=
  let s := s.setGrid { s.grid with sums := GridSums.empty, lastMeanV := m.v }
  s.forBanks (fun s k =>
    s.setBank k { s.bank k with meanDuty := m.duty k, meanPower := s.meanPowerOf m x k })

/-- R55: the effective cooling gain. -/
def State.coolingGain (s : State) (k : BankId) : Int :=
  let c := s.bankSettings k
  let a := s.inForce.grids.altitudeCooling
  if (s.bank k).blowerRunning then c.coolingGain * a / 1000 else c.coolingGain * a * c.noBlower / 1000000

/-- R55: the new θ of a running model. -/
def State.nextTheta (s : State) (k : BankId) : Int :=
  let b := s.bank k
  let ambient := if s.roleValid .ambient then s.roleValue .ambient else 200
  clamp (-400) 12000
    (b.theta + (b.meanPower * (s.bankSettings k).heatingGain - (b.theta - ambient) * s.coolingGain k) / 4096)

/-- R55, R56: step 2: a running model is updated; one whose start is due starts. R56 states no clamp for a start value, so one
outside R46's range stands until the next frame's update (assumption log 54). -/
def State.updateTheta (s : State) (k : BankId) : State :=
  let b := s.bank k
  if b.modelRunning then s.setBank k { b with theta := s.nextTheta k }
  else if b.startDue then
    s.setBank k { b with
      theta := if s.roleValid k.airRole then s.roleValue k.airRole else s.inForce.grids.startTemperature
      modelRunning := true, startDue := false }
  else s

/-- R58: step 3: Air Over, which BANK x AIR OVERTEMP follows. -/
def State.judgeAir (s : State) (k : BankId) : State :=
  let b := s.bank k
  if !(s.bankSettings k).enabled then (s.setBank k { b with airOver := false }).reportAbsent k.airCode
  else if s.roleValid k.airRole then
    let tooHot : Bool := (s.bankSettings k).airTrip ≤ s.roleValue k.airRole
    (s.setBank k { b with airOver := tooHot }).report k.airCode tooHot
  else s

/-- R57: whether the circuit check is made in the frame and fails. -/
def State.circuitFails (s : State) (m : Means) (x : GridSums) (k : BankId) : Bool :=
  let e := m.v * m.duty k / (s.bankSettings k).resistance
  let i := m.current k
  decide (200 ≤ m.duty k) && !x.vInvalid && !x.currentInvalid k && !(decide (e ≤ 2 * i) && decide (2 * i ≤ 3 * e))

/-- R57: step 4: a failed check. -/
def State.checkCircuit (s : State) (m : Means) (x : GridSums) (k : BankId) : State :=
  if s.circuitFails m x k then
    (s.setBank k { s.bank k with circuitFailed := true }).latchFault k.circuitCode
  else s

/-- R49: step 5: the history of every bank that is not LOCKED OUT is pruned. -/
def State.pruneBank (s : State) (k : BankId) : State :=
  if (s.bank k).stage = .lockedOut then s
  else s.setBank k { s.bank k with tripHistory := s.prunedHistory k }

/-- R49: step 6: the causes found at a thermal frame, the first of THETA, AIR and CIRCUIT. -/
def State.checkThermalTrip (s : State) (circuit : Bool) (k : BankId) : State :=
  let b := s.bank k
  if !b.available then s
  else if (s.bankSettings k).tripTheta ≤ b.theta then s.tripBank k .theta
  else if b.airOver then s.tripBank k .air
  else if circuit then s.tripBank k .circuit
  else s

/-! ## The descent row (R74 to R79) -/

/-- R76: the gross mass taken; before the Load Monitor has given one, that of a rated load. -/
def State.grossMassUsed (s : State) : Int :=
  s.grid.grossMass.getD (s.inForce.load.emptyMass + s.inForce.load.ratedPayload)

/-- R75: Grade Used. -/
def State.gradeUsed (s : State) : Int :=
  if s.drive.mode = .fallback then max s.grid.descent.gradeUsed s.exchange.slate.grade else s.exchange.slate.grade

/-- R78: the quotient of case 4. -/
def State.descentQuotient (s : State) (e : Int) : Int :=
  360000 * s.grid.pAvail * s.inForce.descent.descentMargin / (981 * s.grossMassUsed * e)

/-- R78, R79: the descent record and row 3. -/
def State.writeDescent (s : State) : State :=
  let e := s.gradeUsed - s.inForce.descent.rollingResistance
  let ceiling := s.inForce.ceilings.forwardSpeed
  let q := s.descentQuotient e
  let record : DescentCondition → Int → Descent := fun c v =>
    { condition := c, gradeUsed := s.gradeUsed, effectiveGrade := e, grossMassUsed := s.grossMassUsed,
      powerUsed := s.grid.pAvail, value := v }
  let old := s.grid.descent.value
  let put : DescentCondition → Bool → Option Int → State := fun c active v =>
    (s.setGrid { s.grid with descent := record c (v.getD old) }).writeRow .descentSpeed active v
  if s.drive.mode ≠ .armed ∧ s.drive.mode ≠ .fallback then put .notDriving false none
  else if e ≤ 0 then put .notDownhill false none
  else if s.grid.pAvail = 0 then put .noPower true (some 0)
  else if ceiling ≤ q then put .ceiling true (some ceiling)
  else put .active true (some q)

/-- R47: step 11: after a board reset or a soft restart the first thermal frame reports the kept conditions anew. The blower faults are
no kept condition: a DC-link frame judges them (R60), and until station 3 is PRESENT again each stays as the reset left it, absent
(the model's choice, assumption log 62). -/
def State.reportBanksAnew (s : State) : State :=
  if s.grid.reportAnew then
    let s := s.setGrid { s.grid with reportAnew := false }
    s.forBanks (fun s k =>
      let b := s.bank k
      let s := s.report k.tripCode (b.stage = .tripped || b.stage = .lockedOut) (optionCode BankTrip.code b.lastTripCause)
      (s.report k.lockoutCode (b.stage = .lockedOut)).report k.airCode b.airOver)
  else s

/-- R45: one thermal frame, in its eleven steps. While Mode is UNCONFIGURED the frame does not run. -/
def State.thermalFrame (s : State) : State :=
  if s.drive.mode = .unconfigured then s
  else
    let x := s.grid.sums
    let m := s.thermalMeans
    let circuitA := s.circuitFails m x .a
    let circuitB := s.circuitFails m x .b
    let s := s.setTimers { s.timers with thermal := s.again s.timers.thermal 100000 }
    let s := s.formMeans m x
    let s := s.forBanks State.updateTheta
    let s := s.forBanks State.judgeAir
    let s := s.forBanks (fun s k => s.checkCircuit m x k)
    let s := s.forBanks State.pruneBank
    let s := (s.checkThermalTrip circuitA .a).checkThermalTrip circuitB .b
    let s := s.forBanks State.returnBank
    let s := s.forBanks State.settleBank
    let s := s.computePower.writeDescent
    s.reportBanksAnew.drawFree

/-! ## What the Grid Manager is told -/

/-- R57, R68: a CLEAR FAULT has cleared the Latched of a code. -/
def State.tellGrid (s : State) (c : FaultCode) : State :=
  match c with
  | .bankACircuit => s.setBank .a { s.bank .a with circuitFailed := false }
  | .bankBCircuit => s.setBank .b { s.bank .b with circuitFailed := false }
  | .dcLinkOvervoltage =>
    let s := s.setGrid { s.grid with ovHeld := false }
    if s.grid.ovHigh then s else s.writeRow .linkOvervoltageRetard false none
  | _ => s

/-- R48, R49, R59: an accepted CHOPPER REPLY: Blower Running of each bank. The fault and ready flags are read off the last
good reply. -/
def State.takeChopperReply (s : State) (r : ChopperReply) : State :=
  s.setGrid { s.grid with
    bankA := { s.grid.bankA with blowerRunning := r.blowerA }, bankB := { s.grid.bankB with blowerRunning := r.blowerB } }

/-! ## The commands of this chapter -/

/-- DC_LINK_FRAME (R45). -/
def execDcLinkFrame (s : State) : Host.Outcome State Fault Refusal := .next s.dcLinkFrame

/-- THERMAL_FRAME (R45). -/
def execThermalFrame (s : State) : Host.Outcome State Fault Refusal := .next s.thermalFrame

end Sys2Proof.Machine
end

