-- ==== Sys2Proof/Machine/WheelLink.lean ====
section
/-! DEFINITION. The Wheel Link Master: frames, exchanges, the receiver and assembler, presence, acceptance, the line's
supervision and the HALT (R126 to R149). -/

namespace Sys2Proof.Machine

/-! ## Frames (R127) -/

/-- R127: the command kind of a station. -/
def StationId.commandKind : StationId → Nat
  | .inverterL => 1
  | .inverterR => 1
  | .chopper => 2
  | .valve => 3

/-- R127: a field of one character. -/
def oneChar (n : Nat) : List (BitVec 8) := [BitVec.ofNat 8 n]

/-- R127: a field of two characters, low byte first, in two's complement where it is signed. -/
def twoChars (x : Int) : List (BitVec 8) := [BitVec.ofInt 8 x, BitVec.ofInt 8 (x / 256)]

/-- R127: a flag character, bit 0 first. -/
def flagChar (flags : List Bool) : List (BitVec 8) :=
  [flags.foldr (fun b acc => acc * 2 + (if b then 1 else 0)) 0]

/-- R127: the payload of a torque command, less its counter. -/
def TorqueRecord.payload (r : TorqueRecord) : List (BitVec 8) := twoChars r.torque ++ flagChar [r.enable, r.reverse]

/-- R127: the payload of a station's command, less its counter. -/
def Outgoing.payload (o : Outgoing) : StationId → List (BitVec 8)
  | .inverterL => o.left.payload
  | .inverterR => o.right.payload
  | .chopper => twoChars o.chopper.dutyA ++ twoChars o.chopper.dutyB ++ flagChar [o.chopper.blowerA, o.chopper.blowerB]
  | .valve => twoChars o.flow

/-- R127: the sum of data modulo 256. -/
def dataSum (data : List (BitVec 8)) : BitVec 8 := data.foldl (fun acc b => acc + b) 0

/-- R127: the header's data: the kind in the high four bits, the station number in the low four. -/
def headerData (kind station : Nat) : BitVec 8 := BitVec.ofNat 8 (16 * kind + station)

/-- R127, R130: the whole command frame of a station, with its counter. -/
def commandFrame (o : Outgoing) (n : StationId) (counter : Nat) : List TxChar :=
  let data := headerData n.commandKind n.number :: (o.payload n ++ oneChar counter)
  let all := data ++ [0 - dataSum data]
  all.zipIdx.map (fun p => { data := p.1, mark := p.2 == 0 })

/-! ## Characters on the line (R126) -/

/-- R126: the number of ones among eight data bits and a mark bit. -/
def onesCount (data : BitVec 8) (mark : Bool) : Nat :=
  ((List.range 8).map (fun k => (data.getLsbD k).toNat)).sum + mark.toNat

/-- R126: the parity bit that makes the number of ones odd. -/
def oddParity (data : BitVec 8) (mark : Bool) : Bool := onesCount data mark % 2 = 0

/-- R126: the twelve bits of a sent character, in the order they are sent: the start bit, low; eight data bits, least
significant first; the mark bit; the parity bit; the stop bit, high. -/
def TxChar.bits (c : TxChar) : List Bool :=
  false :: ((List.range 8).map c.data.getLsbD ++ [c.mark, oddParity c.data c.mark, true])

/-- R126: a sent character as it stands on the line where nothing disturbs it. -/
def TxChar.onLine (c : TxChar) : LineChar :=
  { data := c.data, mark := c.mark, parityBit := oddParity c.data c.mark, stopBit := true, noise := false, afterHigh := true }

/-- R126: the character that the receiver takes off the line: FRAMING where the stop bit is low, PARITY where the parity bit does
not make the count of ones odd. -/
def receivedChar (c : LineChar) : RxChar :=
  { data := c.data, noise := c.noise, framing := !c.stopBit, parity := c.parityBit != oddParity c.data c.mark, mark := c.mark }

/-! ## Replies (R127, R139) -/

/-- R127: the frame lengths of the table's kinds. -/
def frameLength (kind : Nat) : Option Nat :=
  match kind with
  | 1 => some 6
  | 2 => some 8
  | 3 => some 5
  | 9 => some 9
  | 10 => some 4
  | 11 => some 6
  | _ => none

/-- R127: the kind in a header's high four data bits. -/
def headerKind (b : BitVec 8) : Nat := b.toNat / 16

/-- R127: the station number in a header's low four data bits. -/
def headerStation (b : BitVec 8) : Nat := b.toNat % 16

/-- R127: a signed field of two characters. -/
def signedChars (low high : BitVec 8) : Int := (BitVec.append high low).toInt

/-- R127, R139: the fields of a reply, from its data. -/
def readReply (n : StationId) (data : List (BitVec 8)) : Reply :=
  let at_ : Nat → BitVec 8 := fun k => data.getD k 0
  match n with
  | .inverterL | .inverterR =>
    .torque
      { torque := signedChars (at_ 1) (at_ 2), rpm := (at_ 3).toNat + 256 * (at_ 4).toNat, winding := (at_ 5).toNat,
        fault := dataBit (at_ 6) 0, derated := dataBit (at_ 6) 1, ready := dataBit (at_ 6) 2 }
  | .chopper =>
    .chopper
      { blowerA := dataBit (at_ 1) 0, blowerB := dataBit (at_ 1) 1, faultA := dataBit (at_ 1) 2,
        faultB := dataBit (at_ 1) 3, ready := dataBit (at_ 1) 4 }
  | .valve =>
    .valve { spool := signedChars (at_ 1) (at_ 2), fault := dataBit (at_ 3) 0, pump := dataBit (at_ 3) 1 }

/-! ## Judgement (R136) -/

/-- R136: whether a character carries an error flag. -/
def charFlawed (c : RxChar) : Bool := c.noise || c.framing || c.parity

/-- R136: the first character of the frame has MARK clear, whatever its error flags. -/
def Frame.unmarked (f : Frame) : Bool := f.chars.head?.any (fun c => !c.mark)

/-- R136: the reason of a BAD frame; none for a GOOD one. `long`: 12 characters were reached. NO HEADER is a frame so marked by the
address match (R135), or whose first character has MARK clear. LENGTH is judged by the kind the header names, where R127's table
has it (assumption log 21). -/
def Frame.judge (f : Frame) (n : StationId) (counter : Nat) (long : Bool) : Option Reason :=
  let data := f.chars.map (fun c => c.data)
  let kind := headerKind (data.headD 0)
  let lengthBad : Bool := long || (match frameLength kind with
    | some m => data.length ≠ m
    | none => false)
  if f.noHeader || f.unmarked then some .noHeader
  else if f.overrun then some .overrun
  else if f.chars.any charFlawed then some .character
  else if (f.chars.drop 1).any (fun c => c.mark) then some .mark
  else if lengthBad then some .length
  else if kind ≠ n.commandKind + 8 then some .kind
  else if dataSum data ≠ 0 then some .check
  else if (data.getD (data.length - 2) 0).toNat ≠ counter then some .counter
  else none

/-! ## Publication and small changes -/

/-- R148: the Link Master publishes. -/
def State.publishLink (s : State) : State := s.setPublished { s.published with link := s.link }

/-- R133, R141: the queue and the frame under assembly emptied and the exchange dropped, with its mute and Reply Timer. Poll
Index is not advanced. That a mute ends at once with an exchange that is abandoned, so that later characters are unsolicited, is the
model's choice (assumption log 63). -/
def State.abandonExchange (s : State) : State :=
  let s := s.setLink { s.link with exchange := none, queue := [], frame := Frame.empty, muted := false }
  s.setTimers { s.timers with reply := none }

/-- R149: the Poll List; empty before the first settings (R129). -/
def State.pollList (s : State) : List StationId := (s.settings.map (fun c => c.link.pollList)).getD []

/-! ## The exchange (R130, R131, R140) -/

/-- R130: steps 1 to 4: the first character of the command begins. -/
def State.beginExchange (s : State) (n : StationId) : State :=
  let counter := ((s.station n).counter + 1) % 256
  let s := s.setStation n { s.station n with counter := counter }
  let frame := commandFrame s.link.outgoing n counter
  s.setLink { s.link with
    sending := frame.head?.map (fun c => { station := n, char := c, echo := none })
    exchange := some
      { station := n, counter := counter, toSend := frame.drop 1, windowOpen := false, gotFirst := false, stray := false,
        judged := none, endsAfter := none } }

/-- R130: whether an exchange may start: none is in progress, the transmitter is ENABLED, nothing is being sent, no HALT is
due or on the line, and the line is not stuck low. -/
def Link.mayStart (x : Link) : Bool :=
  x.exchange.isNone && x.enabled && x.sending.isNone && !x.haltPending && !x.halting && !x.stuck

/-- R130: an exchange starts at the Poll List entry at Poll Index. With an empty list none takes place (R129). -/
def State.startExchange (s : State) : State :=
  match s.pollList[s.link.pollIndex]? with
  | some n => if s.link.mayStart then s.beginExchange n else s
  | none => s

/-- R140: whether the echo passes. -/
def Sending.passes (x : Sending) : Bool :=
  match x.echo with
  | some e => e.data = x.char.data && e.mark = x.char.mark && !charFlawed e
  | none => false

/-- R130, R131: the character on the line has ended: the next one begins, or, once the echo of the last one has passed, the reply
window opens with the Reply Timer. A HALT that is pending goes ahead of the rest of the frame (R144). -/
def State.sendNext (s : State) : State :=
  match s.link.exchange with
  | none => s
  | some e =>
    match e.toSend with
    | c :: rest =>
      if s.link.haltPending then s
      else s.setLink { s.link with
        sending := some { station := e.station, char := c, echo := none }, exchange := some { e with toSend := rest } }
    | [] =>
      if s.link.awaited.isSome || e.windowOpen then s
      else
        let s := s.setLink { s.link with exchange := some { e with windowOpen := true } }
        s.setTimers { s.timers with reply := s.after s.active.link.replyTimer }

/-- R141: the check has failed. A HALT that is on the line when an echo still awaited is found failing runs to its end with its idle
(the model's choice, assumption log 72). -/
def State.echoFailed (s : State) (n : StationId) : State :=
  let s := s.setLink { s.link with sending := none, awaited := none, enabled := false }
  let s := s.abandonExchange
  let s := s.setLink { s.link with haltPending := false }
  (s.latchFault .linkEcho n.number).publishLink

/-- R140: the end of the character on the line. An echo that has come must pass; one that has not yet come is awaited for one
character-time more, in which the next character is sent (assumption log 22). -/
def State.endCharacter (s : State) : State :=
  match s.link.sending with
  | none => s.sendNext
  | some x =>
    if x.echo.isNone then (s.setLink { s.link with sending := none, awaited := some x }).sendNext
    else if x.passes then (s.setLink { s.link with sending := none }).sendNext
    else s.echoFailed x.station

/-- R140: the echo check, at the end of each character-time. The echo of the character before the one on the line is due, and then
the character on the line ends. With no character sent and none awaited there is no check (assumption log 3). -/
def State.checkEcho (s : State) : State :=
  match s.link.awaited with
  | some w => if w.passes then (s.setLink { s.link with awaited := none }).endCharacter else s.echoFailed w.station
  | none => if s.link.sending.isSome then s.endCharacter else s

/-! ## The receiver (R132, R133, R135) -/

/-- R132: a character outside every other case. -/
def State.unsolicited (s : State) : State :=
  s.setLink { s.link with unsolicitedCount := saturate 65535 (s.link.unsolicitedCount + 1) }

/-- R133: a character joins the queue's tail, or is lost to a full queue. -/
def State.enqueue (s : State) (c : RxChar) : State :=
  if 16 ≤ s.link.queue.length then
    (s.setLink { s.link with
      overrunCount := saturate 65535 (s.link.overrunCount + 1), frame := { s.link.frame with overrun := true } }).publishLink
  else s.setLink { s.link with queue := s.link.queue ++ [c] }

/-- R131, R135: the first character of a reply window stops the Reply Timer and is matched. -/
def State.matchFirst (s : State) (e : ExchangeInProgress) (c : RxChar) : State :=
  let s := s.setTimers { s.timers with reply := none }
  let s := s.setLink { s.link with exchange := some { e with gotFirst := true } }
  if charFlawed c then s.enqueue c
  else if !c.mark then
    (s.setLink { s.link with frame := { s.link.frame with noHeader := true } }).enqueue c
  else if headerStation c.data = e.station.number then s.enqueue c
  else s.setLink { s.link with exchange := some { e with gotFirst := true, stray := true }, muted := true }

/-- R132: a received character that is no echo. -/
def State.receiveReply (s : State) (c : RxChar) : State :=
  if s.link.halting || s.link.muted then s
  else match s.link.exchange with
    | some e =>
      if !e.windowOpen then s.unsolicited
      else if e.gotFirst then s.enqueue c
      else s.matchFirst e c
    | none => s.unsolicited

/-- R132: the oldest sent character whose echo is still awaited takes the received one as its echo. -/
def Link.takeEcho (x : Link) (c : RxChar) : Option Link :=
  match x.awaited, x.sending with
  | some { station := n, char := t, echo := none }, _ =>
    some { x with awaited := some { station := n, char := t, echo := some c } }
  | _, some { station := n, char := t, echo := none } =>
    some { x with sending := some { station := n, char := t, echo := some c } }
  | _, _ => none

/-- R132: a received character, by the first case that applies. A character on the line while a sent one is there whose echo has
already come stands for no sent character, and changes nothing (assumption log 22). -/
def State.receive (s : State) (c : RxChar) : State :=
  match s.link.takeEcho c with
  | some x => s.setLink x
  | none => if s.link.sending.isSome then s else s.receiveReply c

/-- R126: a line held low past the stop bit is one character; after it the receiver takes none until the line has been high for
one bit-time. -/
def State.takeLine (s : State) (c : LineChar) : State :=
  if s.link.awaitHigh && !c.afterHigh then s
  else (s.setLink { s.link with awaitHigh := !c.stopBit }).receive (receivedChar c)

/-! ## Presence and acceptance (R137 to R139, R147) -/

/-- R137: the totals after an outcome. -/
def Totals.count (t : Totals) : Option Reason → Totals
  | none => { t with good := saturate 65535 (t.good + 1) }
  | some r => { t with bad := t.bad.set r.index (saturate 65535 (t.bad[r.index] + 1)) }

/-- R137: a station's record after an outcome. -/
def Station.judged (x : Station) (outcome : Option Reason) : Station :=
  match outcome with
  | none =>
    let run := saturate 255 (x.goodRun + 1)
    { x with
      totals := x.totals.count none, goodRun := run, missRun := 0
      state := match x.state with
        | .absent => .present
        | .present => .present
        | .lost => if 5 ≤ run then .present else .lost }
  | some r =>
    let run := saturate 255 (x.missRun + 1)
    { x with
      totals := x.totals.count (some r), lastReason := some r, missRun := run, goodRun := 0
      state := match x.state with
        | .absent => .absent
        | .present => if 3 ≤ run then .lost else .present
        | .lost => .lost }

/-- R138, R96, R180: a station goes from PRESENT to LOST. -/
def State.stationLost (s : State) (n : StationId) (r : Reason) : State :=
  let s := s.reportPresent n.lostCode r.code
  match n with
  | .inverterL | .inverterR => s
  | .chopper => s.abortTest .station
  | .valve => s.stationFourLost

/-- R147: whether two speeds disagree. -/
def speedsDisagree (e w : Int) : Bool := decide (max e 50 < 10 * magnitude (w - e))

/-- R158: the rear channel of a wheel. -/
def Wheel.channel : Wheel → Channel
  | .left => .rearL
  | .right => .rearR

/-- R147: a wheel's Mismatch Since. -/
def Link.mismatch (x : Link) : Wheel → Option Nat
  | .left => x.mismatchL
  | .right => x.mismatchR

/-- R147: a wheel's Mismatch Since replaced. -/
def State.setMismatch (s : State) (w : Wheel) (t : Option Nat) : State :=
  match w with
  | .left => s.setLink { s.link with mismatchL := t }
  | .right => s.setLink { s.link with mismatchR := t }

/-- R147: the speed cross-check at an accepted TORQUE REPLY. -/
def State.crossCheck (s : State) (w : Wheel) (r : TorqueReply) : State :=
  let e : Int := r.rpm * s.active.link.speedPerRpm / 1000
  if speedsDisagree e (s.channel w.channel).speed then
    match s.link.mismatch w with
    | none => s.setMismatch w (some s.now)
    | some t =>
      if elapsed s.now t < 1000 then s
      else if (s.fault w.mismatchCode).active then s
      else s.reportPresent w.mismatchCode
  else (s.setMismatch w none).reportAbsent w.mismatchCode

/-- R40, R120, R147: a TORQUE REPLY told to the Drive Governor, the Load Monitor and the cross-check. -/
def State.takeTorqueReply (s : State) (w : Wheel) (r : TorqueReply) : State :=
  ((s.report w.inverterCode r.fault).takeMotorReply w r).crossCheck w r

/-- R139: an accepted reply: it is stored and the blocks that read the station are told. The assembler is held while that
lasts (R133). -/
def State.acceptReply (s : State) (n : StationId) (r : Reply) : State :=
  let s := s.setStation n { s.station n with lastGood := some r, lastAccepted := some s.now }
  let s := s.setLink { s.link with held := true }
  let s := s.setTimers { s.timers with hold := s.after 150 }
  match n, r with
  | .inverterL, .torque t => s.takeTorqueReply .left t
  | .inverterR, .torque t => s.takeTorqueReply .right t
  | .chopper, .chopper t => s.takeChopperReply t
  | .valve, .valve t => s.takeValveReply t
  | _, _ => s

/-- R137, R138: the outcome updates the polled station's record. -/
def State.judgeStation (s : State) (n : StationId) (outcome : Option Reason) : State :=
  let old := (s.station n).state
  let s := s.setStation n ((s.station n).judged outcome)
  let new := (s.station n).state
  match outcome with
  | some r => if old = .present ∧ new = .lost then s.stationLost n r else s
  | none => if old = .lost ∧ new = .present then s.reportAbsent n.lostCode else s

/-- R130, R131, R137 to R139: the exchange in progress ends with an outcome; `data` is that of a GOOD frame. -/
def State.endExchange (s : State) (e : ExchangeInProgress) (outcome : Option Reason) (data : List (BitVec 8)) : State :=
  let s := s.abandonExchange
  let s := s.setLink { s.link with pollIndex := (s.link.pollIndex + 1) % max 1 s.pollList.length }
  let s := s.judgeStation e.station outcome
  let s :=
    if outcome.isNone ∧ s.present e.station then s.acceptReply e.station (readReply e.station data) else s
  s.publishLink

/-- R134: the frame under assembly ends with the idle span and is judged, and the exchange ends with it. Characters that wait in
the queue then, having arrived after the span, are dropped with the exchange (assumption log 60). -/
def State.endAssembly (s : State) (e : ExchangeInProgress) : State :=
  s.endExchange e (s.link.frame.judge e.station e.counter false) (s.link.frame.chars.map (fun c => c.data))

/-- R134: the assembler appends a drained character to the frame of the exchange in progress. A frame that reaches 12 characters is
judged with LENGTH and the receiver mutes. Where the idle span has passed, the last character that arrived before it ends the
frame. -/
def State.assemble (s : State) (e : ExchangeInProgress) (c : RxChar) : State :=
  let frame := { s.link.frame with chars := s.link.frame.chars ++ [c] }
  if 12 ≤ frame.chars.length then
    s.setLink { s.link with
      frame := Frame.empty, muted := true,
      exchange := some { e with judged := frame.judge e.station e.counter true, endsAfter := none } }
  else if e.endsAfter = some 1 then (s.setLink { s.link with frame := frame }).endAssembly e
  else s.setLink { s.link with frame := frame, exchange := some { e with endsAfter := e.endsAfter.map (fun n => n - 1) } }

/-- R133, R134: the assembler takes the queue's oldest character. What is drained while the receiver is muted belongs to no frame
(assumption log 23). -/
def State.drain (s : State) : State :=
  match s.link.queue with
  | [] => s
  | c :: rest =>
    if s.link.held then s
    else
      let s := s.setLink { s.link with queue := rest }
      if s.link.muted then s
      else
        match s.link.exchange with
        | some e => s.assemble e c
        | none => s.setLink { s.link with frame := { s.link.frame with chars := s.link.frame.chars ++ [c] } }

/-- R134: the idle span of 2 character-times after the window's last character has passed. The frame ends at once where the assembler
has drained every character; otherwise it ends in the drain that takes the last of those that wait now (assumption log 60). -/
def State.endFrame (s : State) : State :=
  match s.link.exchange with
  | some e =>
    if e.windowOpen && e.gotFirst && !s.link.muted then
      if s.link.queue.isEmpty then if s.link.frame.chars.isEmpty then s else s.endAssembly e
      else if e.endsAfter.isNone then
        s.setLink { s.link with exchange := some { e with endsAfter := some s.link.queue.length } }
      else s
    else s
  | none => s

/-- R135: the mute ends, and with it the exchange, STRAY or as the overlong frame was judged. -/
def State.endMute (s : State) : State :=
  if s.link.muted then
    match s.link.exchange with
    | some e => s.endExchange e (if e.stray then some .stray else some (e.judged.getD .length)) []
    | none => s.setLink { s.link with muted := false }
  else s

/-- R131: the Reply Timer expires with no character in the window. -/
def State.expireReply (s : State) : State :=
  match s.link.exchange with
  | some e => if e.windowOpen && !e.gotFirst then s.endExchange e (some .missing) [] else s
  | none => s

/-! ## Line supervision and the HALT (R143 to R145) -/

/-- R143: the line has been low for 300 µs while the D7 is not sending. -/
def State.lineStuck (s : State) : State :=
  if !s.link.stuck && s.link.sending.isNone && !s.link.halting then
    let s := s.setLink { s.link with stuck := true }
    let s := if s.link.exchange.isSome then s.abandonExchange else s
    (s.reportPresent .lineStuck).publishLink
  else s

/-- R143: the line has been high for 2 character-times. -/
def State.lineCleared (s : State) : State :=
  if s.link.stuck then ((s.setLink { s.link with stuck := false }).reportAbsent .lineStuck).publishLink else s

/-- R144, R145: the HALT begins: 12 µs low and 2 µs of driven idle. An exchange that it abandons is no exchange's end at which the Link
Master publishes (R148; the model's choice, assumption log 69). -/
def State.startHalt (s : State) : State :=
  if s.link.haltPending && s.link.sending.isNone then
    let s := if s.link.exchange.isSome then s.abandonExchange else s
    let s := s.setLink { s.link with haltPending := false, halting := true }
    s.setTimers { s.timers with haltIdle := s.after 14 }
  else s

/-- R145, R186: the HALT's idle ends: RUNCTL reads 0 again and polling resumes at once. -/
def State.endHalt (s : State) : State :=
  if s.link.halting then
    let s := s.setLink { s.link with halting := false }
    let s := s.setTimers { s.timers with haltIdle := none }
    let s := s.setWindow { s.window with runctl := 0 }
    s.startExchange
  else s

/-- R133: the assembler's hold ends. -/
def State.endHold (s : State) : State :=
  (s.setLink { s.link with held := false }).setTimers { s.timers with hold := none }

/-- R142, R148: a CLEAR FAULT has cleared LINK ECHO. The transmitter returns to ENABLED, and the Link Master publishes that change; with
the transmitter ENABLED already nothing changes and nothing is published. -/
def State.tellLink (s : State) (c : FaultCode) : State :=
  match c with
  | .linkEcho => if s.link.enabled then s else (s.setLink { s.link with enabled := true }).publishLink
  | _ => s

/-! ## Restarts (R129, R146) -/

/-- R146: the faults that a station's replies drive. -/
def StationId.replyFaults : StationId → List FaultCode
  | .inverterL => [.inverterLFault, .speedMismatchL, .motorLOvertemp]
  | .inverterR => [.inverterRFault, .speedMismatchR, .motorROvertemp]
  | .chopper => [.blowerAFault, .blowerBFault]
  | .valve => [.valveFault]

/-- R146: a station that the new Poll List does not name. Its Counter, Totals and Last Reason, of which R146 says nothing, keep their
values (the model's choice, assumption log 76). -/
def State.dropStation (s : State) (n : StationId) : State :=
  let s := s.setStation n { s.station n with
    state := .absent, goodRun := 0, missRun := 0, lastGood := none, lastAccepted := none }
  (n.lostCode :: n.replyFaults).foldl State.reportAbsent s

/-- R146: the restart by an APPLY SETTINGS whose settings are active. The character on the line completes; a hold of the
assembler goes on (assumption log 30). The Link Master publishes the restart as a whole (assumption log 69). The Overrun and
Unsolicited Counts keep their values (the model's choice, assumption log 76). -/
def State.restartLink (s : State) : State :=
  let s := s.abandonExchange
  let s := s.setLink { s.link with pollIndex := 0, mismatchL := none, mismatchR := none }
  let dropUnnamed : State → StationId → State := fun s n => if s.pollList.contains n then s else s.dropStation n
  ([StationId.inverterL, .inverterR, .chopper, .valve].foldl dropUnnamed s).publishLink

/-- R129, R146: the Link Master after a soft restart. The character on the line completes and its echo is checked; the
assembler's hold ends (assumption log 30); the restart's request is merged with
a HALT that is on the line (R144, assumption log 24). -/
def State.softResetLink (s : State) : State :=
  let x := s.link
  let s := s.setLink { Link.initial with sending := x.sending, awaited := x.awaited, haltPending := !x.halting, halting := x.halting }
  s.setTimers { s.timers with reply := none, hold := none }

/-- R129, R146: the Link Master after a board reset: no HALT, the driver off, and the assembler's hold ended (assumption
log 30). -/
def State.boardResetLink (s : State) : State :=
  let s := s.setLink Link.initial
  s.setTimers { s.timers with reply := none, haltIdle := none, hold := none }

/-! ## The commands of this chapter -/

/-- EXCHANGE_START (R130): the line has been idle for 2 character-times. -/
def execExchangeStart (s : State) : Host.Outcome State Fault Refusal := .next s.startExchange

/-- ECHO_CHECK (R140). -/
def execEchoCheck (s : State) : Host.Outcome State Fault Refusal := .next s.checkEcho

/-- REPLY_TIMER_EXPIRY (R131). -/
def execReplyTimerExpiry (s : State) : Host.Outcome State Fault Refusal := .next s.expireReply

/-- CHARACTER_RECEIVED (R126, R132). -/
def execCharacterReceived (c : LineChar) (s : State) : Host.Outcome State Fault Refusal := .next (s.takeLine c)

/-- ASSEMBLER_DRAIN (R133). -/
def execAssemblerDrain (s : State) : Host.Outcome State Fault Refusal := .next s.drain

/-- FRAME_END (R134). -/
def execFrameEnd (s : State) : Host.Outcome State Fault Refusal := .next s.endFrame

/-- MUTE_END (R135). -/
def execMuteEnd (s : State) : Host.Outcome State Fault Refusal := .next s.endMute

/-- LINE_STUCK_DETECTED (R143). -/
def execLineStuckDetected (s : State) : Host.Outcome State Fault Refusal := .next s.lineStuck

/-- LINE_STUCK_CLEARED (R143). -/
def execLineStuckCleared (s : State) : Host.Outcome State Fault Refusal := .next s.lineCleared

/-- HALT_START (R144). -/
def execHaltStart (s : State) : Host.Outcome State Fault Refusal := .next s.startHalt

/-- HALT_END (R145). -/
def execHaltEnd (s : State) : Host.Outcome State Fault Refusal := .next s.endHalt

/-- ASSEMBLER_HOLD_END (R133). -/
def execAssemblerHoldEnd (s : State) : Host.Outcome State Fault Refusal := .next s.endHold

end Sys2Proof.Machine
end

