-- ==== Sys2Proof/Machine/ExchangeUnit.lean ====
section
/-! DEFINITION. The Exchange Unit: the slate pick-up, CLEAR FAULT and the writes of ATTN and ATTNEN (R185, R187, R188, R195). -/

namespace Sys2Proof.Machine

/-! ## The Demand Slate (R188) -/

/-- R188: the stamps as a pick-up reads them, lead then trail. -/
def State.slateStamps (s : State) : Word × Word := (s.readWord 0, s.readWord 10)

/-- R188: the slate that stands in the RAM, each field clamped into its range. -/
def State.readSlate (s : State) : Slate :=
  let word : Nat → Word := fun k => s.readWord k
  let int : Nat → Int := fun k => (word k).toNat
  let lock := s.active.steer.maxLock
  { heartbeat := (word 1).toNat
    direction := Direction.ofCode (word 2).toNat
    propel := clamp 0 1000 (int 3)
    retard := clamp 0 1000 (int 4)
    speedHold := clamp 0 900 (int 5)
    zoneSpeed := clamp 0 900 (int 6)
    grade := clamp (-300) 300 (word 7).toInt
    steering := clamp (-lock) lock (word 8).toInt
    parkApplied := wordBit (word 9) 0
    bodyRaised := wordBit (word 9) 1 }

/-- R188, R17, R164: an accepted slate. -/
def State.acceptSlate (s : State) (stamp : Word) : State :=
  let slate := s.readSlate
  let advance : Bool := slate.heartbeat ≠ s.exchange.slate.heartbeat
  let s := s.setExchange { s.exchange with slate := slate, lastStamp := some stamp }
  let s := if s.drive.mode = .fallback then s else s.writeZoneRow
  if advance then s.heartbeatAdvance else s

/-- R188: one pick-up; the timer runs from every reset. -/
def State.pickUp (s : State) : State :=
  let s := s.setTimers { s.timers with pickUp := s.again s.timers.pickUp 1000 }
  let stamps := s.slateStamps
  if stamps.1 ≠ stamps.2 then s.setExchange { s.exchange with torn := saturate 65535 (s.exchange.torn + 1) }
  else if s.exchange.lastStamp = some stamps.1 then s
  else s.acceptSlate stamps.1

/-! ## CLEAR FAULT (R195, R12) -/

/-- R195: Latched cleared on a record that is not Active. A record that is not Latched is not written. -/
def State.unlatch (s : State) (c : FaultCode) : State :=
  let r := s.fault c
  if r.active || !r.latched then s else s.putFault c { r with latched := false }

/-- R195: the owners are told of a code cleared. -/
def State.tellOwners (s : State) (c : FaultCode) : State := ((s.tellGrid c).tellSteer c).tellLink c

/-- R12: a CLEAR FAULT that has cleared a trip cause and leaves none Latched takes TRIPPED to DISARMED. -/
def State.leaveTripped (s : State) (cleared : Bool) : State :=
  if s.drive.mode = .tripped ∧ cleared ∧ !s.tripLatched then s.enterDisarmed else s

/-- R195: the codes whose records are Active, in ascending order. -/
def State.activeCodes (s : State) : List FaultCode := FaultCode.all.filter (fun c => (s.fault c).active)

/-- R195: the codes whose records are not Active. -/
def State.idleCodes (s : State) : List FaultCode := FaultCode.all.filter (fun c => !(s.fault c).active)

/-- R195: whether a trip cause is Latched without being Active, among some codes. -/
def State.clearsTrip (s : State) (codes : List FaultCode) : Bool :=
  codes.any (fun c => c.isTripCause && (s.fault c).latched)

/-- R195: the detail words of ALL: how many records are still Active, and the first six codes, two to a word. -/
def activeDetail (codes : List FaultCode) : List Word :=
  let at_ : Nat → Nat := fun k => faultNumber codes[k]?
  BitVec.ofNat 16 codes.length ::
    [0, 2, 4].map (fun k => BitVec.ofNat 16 (at_ k + 256 * at_ (k + 1)))

/-- R195: the clearing of some codes, none of them Active: the records, then the owners, then the Drive Governor. -/
def State.clearCodes (s : State) (codes : List FaultCode) : State :=
  let trip := s.clearsTrip codes
  let s := codes.foldl State.unlatch s
  (codes.foldl State.tellOwners s).leaveTripped trip

/-- R195: CLEAR FAULT handed to the Exchange Unit. -/
def State.handClearFault (s : State) (o : HeldOrder) : State :=
  let n := (o.argument 0).toNat
  if n = 0xFF then
    let detail := activeDetail s.activeCodes
    (s.clearCodes s.idleCodes).complete o.slot .done detail
  else match FaultCode.ofNumber n with
    | none => s.complete o.slot .badArgument [0]
    | some c =>
      if (s.fault c).active then s.complete o.slot .causeActive [BitVec.ofNat 16 n]
      else (s.clearCodes [c]).complete o.slot .done

/-! ## The commands of this chapter -/

/-- SLATE_PICK_UP (R188). -/
def execSlatePickUp (s : State) : Host.Outcome State Fault Refusal := .next s.pickUp

/-- ATTN_WRITE (R187). -/
def execAttnWrite (value : Word) (s : State) : Host.Outcome State Fault Refusal :=
  .next (s.setWindow (s.window.clearCauses value))

/-- ATTNEN_WRITE (R185). -/
def execAttnenWrite (value : Word) (s : State) : Host.Outcome State Fault Refusal :=
  .next (s.setWindow (s.window.setEnables value))

end Sys2Proof.Machine
end

