-- ==== Sys2Proof/Machine/Orders.lean ====
section
/-! DEFINITION. The Order Desk: APPLY SETTINGS, ARM DRIVE and DISARM DRIVE, the taking of a slot and the board sweep (R6 to R8,
R14, R189 to R191). -/

namespace Sys2Proof.Machine

/-! ## APPLY SETTINGS (R6, R191) -/

/-- R191: the Setting Block as it stands in the RAM. -/
def State.settingBlock (s : State) : Block := { words := s.readWords 0x0800 0x1CB }

/-- R191: the restarts with the settings that have just become active. -/
def State.restartBlocks (s : State) : State :=
  s.restartScan.restartLink.restartSteer.restartLoad.restartTrace

/-- R6, R14, R191: APPLY SETTINGS handed to the Order Desk. -/
def State.handApply (s : State) (o : HeldOrder) : State :=
  if s.drive.mode = .unconfigured ∨ s.drive.mode = .disarmed then
    match settingFailure s.settingBlock with
    | some offset => s.complete o.slot .badArgument [BitVec.ofNat 16 offset]
    | none =>
      let s := s.setSettings (some (readSettings s.settingBlock))
      s.restartBlocks.setDesk { s.desk with apply := some o }
  else s.complete o.slot .wrongMode

/-! ## ARM DRIVE and DISARM DRIVE (R7, R8) -/

/-- R7: the nine conditions, in bit order. -/
def State.armConditions (s : State) : List Bool :=
  [s.present .inverterL, s.present .inverterR, s.present .chopper, s.grid.bankA.available || s.grid.bankB.available,
   decide (3 ≤ s.supervision.goodCount), decide (s.supervision.failureCount < 8), decide (s.steer.state ≠ .failed),
   !s.tripLatched, s.desk.apply.isNone]

/-- R7: ARM DRIVE handed to the Drive Governor. -/
def State.handArm (s : State) (o : HeldOrder) : State :=
  if s.drive.mode ≠ .disarmed then s.complete o.slot .wrongMode
  else if s.armConditions.all id then s.enterArmed.complete o.slot .done
  else s.complete o.slot .notReady [unmetMask s.armConditions]

/-- R8: DISARM DRIVE handed to the Drive Governor. -/
def State.handDisarm (s : State) (o : HeldOrder) : State :=
  match s.drive.mode with
  | .armed | .fallback =>
    if 5 ≤ s.groundSpeed then s.complete o.slot .moving else s.enterDisarmed.complete o.slot .done
  | .disarmed => s.complete o.slot .done
  | .unconfigured | .selfLoad | .tripped => s.complete o.slot .wrongMode

/-! ## The orders (R189) -/

/-- R189: the nine order kinds. -/
inductive OrderKind where
  | applySettings | armDrive | disarmDrive | clearFallback | clearFault | resetLockout | startSelfLoad | stopSelfLoad | tareLoad
  deriving DecidableEq, Repr

/-- R189: the kinds' codes. -/
def OrderKind.code : OrderKind → Nat
  | .applySettings => 0x01
  | .armDrive => 0x02
  | .disarmDrive => 0x03
  | .clearFallback => 0x04
  | .clearFault => 0x05
  | .resetLockout => 0x06
  | .startSelfLoad => 0x07
  | .stopSelfLoad => 0x08
  | .tareLoad => 0x09

/-- R189: the kinds, in code order. -/
def OrderKind.all : List OrderKind :=
  [.applySettings, .armDrive, .disarmDrive, .clearFallback, .clearFault, .resetLockout, .startSelfLoad, .stopSelfLoad,
   .tareLoad]

/-- R189: the kind of a code, or none outside 0x01 to 0x09. -/
def OrderKind.ofCode (n : Nat) : Option OrderKind := OrderKind.all.find? (fun k => k.code = n)

/-- R189: the owning blocks. -/
inductive Owner where
  | orderDesk | driveGovernor | supervisionMonitor | exchangeUnit | gridManager | generator | loadMonitor
  deriving DecidableEq, Repr

/-- R189: an order's owner. -/
def OrderKind.owner : OrderKind → Owner
  | .applySettings => .orderDesk
  | .armDrive => .driveGovernor
  | .disarmDrive => .driveGovernor
  | .clearFallback => .supervisionMonitor
  | .clearFault => .exchangeUnit
  | .resetLockout => .gridManager
  | .startSelfLoad => .generator
  | .stopSelfLoad => .driveGovernor
  | .tareLoad => .loadMonitor

/-- R190: an order handed to its owner. -/
def State.handOver (s : State) (k : OrderKind) (o : HeldOrder) : State :=
  match k with
  | .applySettings => s.handApply o
  | .armDrive => s.handArm o
  | .disarmDrive => s.handDisarm o
  | .clearFallback => s.handClearFallback o
  | .clearFault => s.handClearFault o
  | .resetLockout => s.handResetLockout o
  | .startSelfLoad => s.handStart o
  | .stopSelfLoad => s.handStop o
  | .tareLoad => s.handTareLoad o

/-- R189: whether an owner holds a TAKEN order. -/
def State.ownerBusy (s : State) : Owner → Bool
  | .orderDesk => s.desk.apply.isSome
  | .generator => s.desk.start.isSome
  | .loadMonitor => s.desk.tare.isSome
  | .driveGovernor | .supervisionMonitor | .exchangeUnit | .gridManager => false

/-- R14, R170: the orders that the Order Desk lets through in FALLBACK. -/
def OrderKind.passesFallback : OrderKind → Bool
  | .clearFallback => true
  | .clearFault => true
  | .disarmDrive => true
  | .applySettings | .armDrive | .resetLockout | .startSelfLoad | .stopSelfLoad | .tareLoad => false

/-- R190: an order is taken and handed to its owner. -/
def State.takeAndHand (s : State) (slot : Fin 16) (k : OrderKind) : State :=
  let p := s.takeOrder slot
  p.1.handOver k p.2

/-- R189: cases 2 to 5 for one POSTED slot of a known kind; the second part says whether the slot was left POSTED.
`waiting`: an earlier slot of the sweep for the same owner was left POSTED. -/
def State.dealWith (s : State) (slot : Fin 16) (k : OrderKind) (waiting : Bool) : State × Bool :=
  if s.ownerBusy k.owner || waiting then (s, true)
  else if s.drive.mode = .fallback ∧ !k.passesFallback then (s.complete slot .wrongMode, false)
  else if s.desk.apply.isSome ∧ k = .startSelfLoad then (s, true)
  else (s.takeAndHand slot k, false)

/-- R190: the desk holds the TAKEN order of a slot. -/
def OrderDesk.holds (x : OrderDesk) (slot : Fin 16) : Bool :=
  [x.apply, x.start, x.tare].any (fun o => o.any (fun y => y.slot = slot))

/-- R189, R190: an order can be taken from a slot, or completed there at its turn: the slot is POSTED and its order is not TAKEN.
A POSTED that the truck controller has written into a slot whose order the desk holds is lost (assumption log 59). -/
def State.offers (s : State) (slot : Fin 16) : Bool := s.isPosted slot && !s.desk.holds slot

/-- R189, R190: one slot of a sweep; the second part holds the owners of the slots left POSTED. TAKEN is written over POSTED
only: a listed slot that an earlier slot of the sweep has completed (STOP SELF-LOAD completes its START) is DONE at its turn,
and what was posted there is lost. A listed slot whose order the desk holds TAKEN is passed over, and makes no later slot wait
(assumption log 59). -/
def sweepSlot (acc : State × List Owner) (slot : Fin 16) : State × List Owner :=
  if !acc.1.offers slot then acc
  else match OrderKind.ofCode (acc.1.orderKind slot).toNat with
  | none => (acc.1.complete slot .unknownOrder, acc.2)
  | some k =>
    let p := acc.1.dealWith slot k (acc.2.contains k.owner)
    (p.1, if p.2 then k.owner :: acc.2 else acc.2)

/-- R189: a slot's Post Stamp. -/
def State.postStamp (s : State) (slot : Fin 16) : Nat := (s.readWord (slotBase slot + 1)).toNat

/-- R189: the distance from one stamp to another. -/
def stampDistance (a b : Nat) : Nat := (b + 65536 - a) % 65536

/-- R189: the POSTED slots in ascending slot index. -/
def State.postedSlots (s : State) : List (Fin 16) := (List.finRange 16).filter s.isPosted

/-- R189: all listed stamps lie within a span of 32767: some listed stamp has every other at most 32767 after it. -/
def firstStamp (stamps : List Nat) : Option Nat :=
  stamps.find? (fun a => stamps.all (fun b => stampDistance a b ≤ 32767))

/-- R189: one slot put into a list in stamp order, after the slots whose distance from the first stamp is not larger. -/
def insertSlot (key : Fin 16 → Nat) (slot : Fin 16) : List (Fin 16) → List (Fin 16)
  | [] => [slot]
  | x :: rest => if key slot < key x then slot :: x :: rest else x :: insertSlot key slot rest

/-- R189: the order of a sweep: stamp order, with equal stamps by slot index; slot order where the stamps span too far. -/
def State.sweepOrder (s : State) : List (Fin 16) :=
  let slots := s.postedSlots
  match firstStamp (slots.map s.postStamp) with
  | none => slots
  | some a => slots.foldl (fun acc slot => insertSlot (fun x => stampDistance a (s.postStamp x)) slot acc) []

/-- R189: one board sweep; its timer runs from every reset. -/
def State.sweep (s : State) : State :=
  let s := s.setTimers { s.timers with sweep := s.again s.timers.sweep 1000 }
  (s.sweepOrder.foldl sweepSlot (s, [])).1

/-- R189, R190: the order posted in a slot, if the slot offers one and it is of the kind. Otherwise there is no such order. -/
def State.order (s : State) (slot : Fin 16) (k : OrderKind) : State :=
  if s.offers slot ∧ (s.orderKind slot).toNat = k.code then (s.dealWith slot k false).1 else s

/-! ## The commands of this chapter -/

/-- BOARD_SWEEP (R189). -/
def execBoardSweep (s : State) : Host.Outcome State Fault Refusal := .next s.sweep

/-- APPLY_SETTINGS (R191). -/
def execApplySettings (slot : Fin 16) (s : State) : Host.Outcome State Fault Refusal := .next (s.order slot .applySettings)

/-- ARM_DRIVE (R7). -/
def execArmDrive (slot : Fin 16) (s : State) : Host.Outcome State Fault Refusal := .next (s.order slot .armDrive)

/-- DISARM_DRIVE (R8). -/
def execDisarmDrive (slot : Fin 16) (s : State) : Host.Outcome State Fault Refusal := .next (s.order slot .disarmDrive)

/-- CLEAR_FALLBACK (R170). -/
def execClearFallback (slot : Fin 16) (s : State) : Host.Outcome State Fault Refusal := .next (s.order slot .clearFallback)

/-- CLEAR_FAULT (R195). -/
def execClearFault (slot : Fin 16) (s : State) : Host.Outcome State Fault Refusal := .next (s.order slot .clearFault)

/-- RESET_LOCKOUT (R51). -/
def execResetLockout (slot : Fin 16) (s : State) : Host.Outcome State Fault Refusal := .next (s.order slot .resetLockout)

/-- START_SELF_LOAD (R174). -/
def execStartSelfLoad (slot : Fin 16) (s : State) : Host.Outcome State Fault Refusal := .next (s.order slot .startSelfLoad)

/-- STOP_SELF_LOAD (R182). -/
def execStopSelfLoad (slot : Fin 16) (s : State) : Host.Outcome State Fault Refusal := .next (s.order slot .stopSelfLoad)

/-- TARE_LOAD (R109). -/
def execTareLoad (slot : Fin 16) (s : State) : Host.Outcome State Fault Refusal := .next (s.order slot .tareLoad)

end Sys2Proof.Machine
end

