-- ==== Sys2Proof/Machine/SpeedTimers.lean ====
section
/-! DEFINITION. The Speed Timers: edges, silence and the ground speed (R158 to R161). -/

namespace Sys2Proof.Machine

/-- R161: a channel's period constant K. -/
def SpeedSettings.k (c : SpeedSettings) : Channel → Nat
  | .frontL => c.kFrontL
  | .frontR => c.kFrontR
  | .rearL => c.kRearL
  | .rearR => c.kRearR

/-- R159: the other front channel, for a front channel. -/
def otherFront : Channel → Option Channel
  | .frontL => some .frontR
  | .frontR => some .frontL
  | .rearL => none
  | .rearR => none

/-- R159: SPEED SENSOR FRONT L or R, for a front channel. -/
def sensorCode : Channel → Option FaultCode
  | .frontL => some .speedSensorFrontL
  | .frontR => some .speedSensorFrontR
  | .rearL => none
  | .rearR => none

/-- A channel's record replaced. -/
def State.setChannel (s : State) (c : Channel) (x : ChannelRecord) : State :=
  s.setSpeed { s.speed with channels := s.speed.channels.set c.index x }

/-- R160: whether a front channel is usable. -/
def ChannelRecord.usable (x : ChannelRecord) : Bool := x.state ≠ .failed

/-- R160: the ground speed and its mark, from the channels. -/
def Speed.reference (x : Speed) : Nat × ReferenceMark :=
  let l := x.channels[Channel.frontL.index]
  let r := x.channels[Channel.frontR.index]
  if l.usable && r.usable then ((l.speed + r.speed) / 2, .frontBoth)
  else if l.usable then (l.speed, .frontLOnly)
  else if r.usable then (r.speed, .frontROnly)
  else (min x.channels[Channel.rearL.index].speed x.channels[Channel.rearR.index].speed, .degraded)

/-- R160: v and its mark are recomputed, and REFERENCE DEGRADED is reported as the mark enters or leaves DEGRADED. -/
def State.recomputeSpeed (s : State) : State :=
  let p := s.speed.reference
  let old := s.speed.mark
  let s := s.setSpeed { s.speed with v := p.1, mark := p.2 }
  if p.2 = .degraded ∧ old ≠ .degraded then s.reportPresent .referenceDegraded
  else if p.2 ≠ .degraded ∧ old = .degraded then s.reportAbsent .referenceDegraded
  else s

/-- R158: a period appended to the list of the last four. -/
def appendPeriod (periods : List Nat) (p : Nat) : List Nat :=
  (if 4 ≤ periods.length then periods.drop 1 else periods) ++ [p]

/-- R158, R2: the speed of a list of periods. -/
def speedOf (k : Nat) (periods : List Nat) : Nat := min 900 (k / (periods.sum / periods.length))

/-- R158: the silence timer restarts at each accepted edge. -/
def State.restartSilence (s : State) (c : Channel) : State :=
  s.setTimers { s.timers with silence := s.timers.silence.set c.index (s.after 250000) }

/-- R158: a first edge. -/
def ChannelRecord.firstEdge (x : ChannelRecord) (us : Nat) : ChannelRecord :=
  { x with lastEdge := some us, state := if x.state = ChannelState.failed then .failed else .running }

/-- R158: an edge that forms a period. A FAILED channel returns at the edge that brings its list to four. -/
def ChannelRecord.nextEdge (x : ChannelRecord) (k us last : Nat) : ChannelRecord :=
  let periods := appendPeriod x.periods (us - last)
  { x with
    lastEdge := some us, periods := periods, speed := speedOf k periods
    state := if x.state = ChannelState.failed ∧ periods.length < 4 then .failed else .running }

/-- R159: a front channel rolling above 30 finds its SILENT partner FAILED. -/
def State.judgePartner (s : State) (c : Channel) : State :=
  match otherFront c with
  | none => s
  | some o =>
    if 30 < (s.channel c).speed ∧ (s.channel o).state = .silent then
      let s := s.setChannel o { s.channel o with state := .failed }
      match sensorCode o with
      | some code => s.reportPresent code
      | none => s
    else s

/-- R158: the sensor of a front channel that has come back from FAILED is reported absent. -/
def State.reportReturn (s : State) (c : Channel) (before : ChannelState) : State :=
  match sensorCode c with
  | some code => if before = .failed ∧ (s.channel c).state = .running then s.reportAbsent code else s
  | none => s

/-- R158: an accepted edge, with the record it leaves. -/
def State.acceptEdge (s : State) (c : Channel) (x : ChannelRecord) : State :=
  let before := (s.channel c).state
  let s := (s.setChannel c x).restartSilence c
  ((s.reportReturn c before).judgePartner c).recomputeSpeed

/-- R158: a rising edge, now. -/
def State.edge (s : State) (c : Channel) : State :=
  let x := s.channel c
  match x.lastEdge with
  | none => s.acceptEdge c (x.firstEdge s.us)
  | some t =>
    if s.us - t < 25 then s.setChannel c { x with glitches := saturate 65535 (x.glitches + 1) }
    else s.acceptEdge c (x.nextEdge (s.active.speed.k c) s.us t)

/-- R159: the record after the silence event. -/
def ChannelRecord.silenced (x : ChannelRecord) (front : Bool) : ChannelRecord :=
  { x with
    periods := [], lastEdge := none, speed := 0
    state := if front && (x.state = .failed || decide (30 < x.speed)) then .failed else .silent }

/-- R159: the silence event of a channel. -/
def State.silence (s : State) (c : Channel) : State :=
  let x := s.channel c
  let s := s.setTimers { s.timers with silence := s.timers.silence.set c.index none }
  let s := s.setChannel c (x.silenced (otherFront c).isSome)
  let s := match sensorCode c with
    | some code => if x.state ≠ ChannelState.failed ∧ 30 < x.speed then s.reportPresent code else s
    | none => s
  s.recomputeSpeed

/-- R159: the silence timer of a channel expires, if its deadline has come. An edge taken first has restarted the timer, and
then no silence occurs. -/
def State.expireSilence (s : State) (c : Channel) : State :=
  match s.timers.silence[c.index] with
  | some d => if d ≤ s.us then s.silence c else s
  | none => s

/-- R161: the Speed Timers after a board reset or a soft restart. -/
def State.resetSpeed (s : State) : State :=
  (s.setSpeed Speed.initial).setTimers { s.timers with silence := Vector.replicate 4 none }

/-- SPEED_EDGE (R158). -/
def execSpeedEdge (c : Channel) (s : State) : Host.Outcome State Fault Refusal := .next (s.edge c)

/-- SILENCE_EVENT (R159). -/
def execSilenceEvent (c : Channel) (s : State) : Host.Outcome State Fault Refusal := .next (s.expireSilence c)

end Sys2Proof.Machine
end

