-- ==== Sys2Proof/Machine/Resets.lean ====
section
/-! DEFINITION. The three resets, and the bus writes of the register window that end in none of the other rows (R5, R21, R44,
R47, R86, R107, R129, R151, R161, R163, R173, R178, R184 to R186, R190, R194, R197). -/

namespace Sys2Proof.Machine

/-- The two resets that keep some of the state. -/
inductive ResetKind where
  | board | soft
  deriving DecidableEq, Repr

/-! ## The Exchange Unit and the Order Desk (R186, R190, R194) -/

/-- R185, R186: RUNCTL, ATTN and ATTNEN; RUNCTL reads 1 from a soft restart's start. They are cleared first, so that the causes
set in the course of the reset stand (assumption log 29). -/
def State.resetWindow (s : State) (k : ResetKind) : State :=
  s.setWindow { runctl := if k = .soft then 1 else 0, attn := 0, attnen := 0 }

/-- R186, R188: the Accepted Slate, the last accepted stamp and the torn-slate count. -/
def State.resetSlate (s : State) : State := s.setExchange { slate := Slate.zero, lastStamp := none, torn := 0 }

/-- R194: Active cleared on every record. -/
def State.clearActive (s : State) : State := FaultCode.all.foldl State.reportAbsent s

/-- R178, R181: a test in progress ends. A soft restart aborts it with cause RESTART as R181 states, START SELF-LOAD included; a
board reset sets a RUNNING list to ABORTED and records nothing. -/
def State.resetTest (s : State) (k : ResetKind) : State :=
  match k with
  | .soft => s.abortWithoutMode .restart
  | .board =>
    if s.selfLoad.header.testState = .running then
      s.putHeader { s.selfLoad.header with testState := .aborted, abortCause := some .restart }
    else s

/-- R186: an order that is TAKEN is completed ABORTED with cause RESTART. -/
def State.abortHeld (s : State) : Option HeldOrder → State
  | none => s
  | some o => s.complete o.slot .aborted [BitVec.ofNat 16 AbortCause.restart.code]

/-- R186, R190: every TAKEN order is aborted, and the Order Desk holds none. -/
def State.abortOrders (s : State) : State :=
  let d := s.desk
  (((s.abortHeld d.apply).abortHeld d.start).abortHeld d.tare).setDesk { apply := none, start := none, tare := none }

/-! ## The Drive Governor and the Limit Table (R5, R21, R44) -/

/-- R5: the mode after a board reset or a soft restart. -/
def State.resetMode (s : State) : Mode := if s.settings.isSome then .disarmed else .unconfigured

/-- R5, R44: the Drive Governor; Trip Cause and the page stamp are kept. MODE is set only where Mode changes (R4). The five limits are 0
until the first governor frame, and row 7 takes that Ls where a failure comes before it (the model's choice, assumption log 64). -/
def State.resetDrive (s : State) : State :=
  let old := s.drive
  let s := s.setDrive { State.reset.drive with
    mode := s.resetMode, since := s.now, tripCause := old.tripCause, pageStamp := old.pageStamp }
  if s.drive.mode = old.mode then s else s.raiseCause .mode

/-- R21: every row inactive with Value 0, Since the time of the reset, Changes kept. -/
def State.resetRows (s : State) : State :=
  s.setRows (s.rows.map (fun r => { active := false, value := 0, since := s.now, changes := r.changes }))

/-! ## The Grid Manager and the monitor (R47, R163) -/

/-- R47: a bank. -/
def Bank.afterReset (b : Bank) : Bank :=
  { Bank.initial with
    stage := match b.stage with
      | .tripped => .tripped
      | .lockedOut => .lockedOut
      | .ready | .derated | .offline => .offline
    theta := b.theta, modelRunning := b.modelRunning, tripHistory := b.tripHistory, lastTripCause := b.lastTripCause,
    circuitFailed := b.circuitFailed, airOver := b.airOver, startDue := b.startDue }

/-- R47, R68, R74: the Grid Manager. -/
def State.resetGrid (s : State) : State :=
  s.setGrid { Grid.initial with
    bankA := s.grid.bankA.afterReset, bankB := s.grid.bankB.afterReset, ovRecheck := true, reportAnew := true }

/-- R163: the Supervision Monitor. -/
def State.resetSupervision (s : State) (k : ResetKind) : State :=
  let old := s.supervision
  let s := s.setSupervision { Supervision.initial with
    windowStart := s.now, failureCount := if k = .soft then old.failureCount else 0, lastFailure := old.lastFailure,
    lastFailureTime := old.lastFailureTime, running := s.settings.isSome }
  let s := if s.settings.isSome then s.startLongWindow else s
  s.report .fallbackLatched (decide (8 ≤ s.supervision.failureCount))

/-! ## Timers and publications (R3, R22, R45, R151) -/

/-- R3, R22, R45: the timers of the blocks that run after the reset. The steering, strobe and window timers follow with their
blocks; the idle of a HALT on the line goes on through a soft restart. -/
def State.resetTimers (s : State) : State :=
  let us := (s.settings.map (fun c => 1000 * c.governing.framePeriod)).getD 2000
  let configured := s.settings.isSome
  s.setTimers { Timers.initial with
    pickUp := s.after 1000, sweep := s.after 1000, governor := s.after us, governorPeriod := us,
    dcLink := if configured then s.after 500 else none, thermal := if configured then s.after 100000 else none,
    haltIdle := s.timers.haltIdle }

/-- What the blocks have published right after the reset: their reset records (assumption log 14). -/
def State.resetPublications (s : State) : State :=
  s.setPublished { Publications.initial with
    grid := s.grid, steer := s.steer, load := s.load, link := s.link, supervision := s.supervision, selfLoad := s.selfLoad }

/-! ## The resets -/

/-- R146: the Link Master, by the kind of reset. -/
def State.resetLink (s : State) (k : ResetKind) : State :=
  match k with
  | .board => s.boardResetLink
  | .soft => s.softResetLink

/-- R5, R186: a board reset or a soft restart. -/
def State.restart (s : State) (k : ResetKind) : State :=
  let s := (s.resetWindow k).resetSlate.clearActive
  let s := (s.resetTest k).abortOrders
  let s := s.setSelfLoad { SelfLoad.initial with header := s.selfLoad.header }
  let s := (s.setSettled s.settings).resetTimers
  let s := s.resetDrive.resetRows.resetGrid
  let s := (s.resetLink k).resetSteer.resetLoad.resetScan.resetSpeed
  let s := (s.resetSupervision k).resetTrace
  s.resetPublications

/-- R5, R184: the supply rises: everything takes its power-on value. What waits in the queue and the free-value counter are the
model's own and stay. -/
def State.powerOn (s : State) : State := (State.reset.setPending s.pending).setFreeCount s.freeCount

/-- R186: a soft restart starts while RUNCTL reads 0; a write of 0x0001 while it reads 1 is ignored. -/
def State.softRestart (s : State) : State := if s.window.runctl = 0 then s.restart .soft else s

/-- R184: a bus write of the register window. -/
def State.writeRegister (s : State) (offset : BitVec 3) (value : Word) : State :=
  match offset.toNat with
  | 2 => if value = 1 then s.softRestart else s
  | 3 => s.setWindow (s.window.clearCauses value)
  | 4 => s.setWindow (s.window.setEnables value)
  | _ => s

/-- POWER_ON_RESET (R5). -/
def execPowerOnReset (s : State) : Host.Outcome State Fault Refusal := .next s.powerOn

/-- BOARD_RESET (R5). -/
def execBoardReset (s : State) : Host.Outcome State Fault Refusal := .next (s.restart .board)

/-- SOFT_RESTART (R186). -/
def execSoftRestart (s : State) : Host.Outcome State Fault Refusal := .next s.softRestart

/-- REGISTER_WRITE_IGNORED (R184). A write that is not to be ignored is no command of this row; given one, the part does what
R184 says of that write. -/
def execRegisterWriteIgnored (offset : BitVec 3) (value : Word) (s : State) : Host.Outcome State Fault Refusal :=
  .next (s.writeRegister offset value)

end Sys2Proof.Machine
end

