-- ==== Sys2Proof/Machine/Dispatch.lean ====
section
/-! DEFINITION. The dispatch: one arm per command. -/

namespace Sys2Proof.Machine

/-- A command's effect on everything but the queue. -/
def exec (i : Instr) (s : State) : Host.Outcome State Fault Refusal :=
  match i with
  | .powerOnReset => Sys2Proof.Machine.execPowerOnReset s
  | .boardReset => Sys2Proof.Machine.execBoardReset s
  | .softRestart => Sys2Proof.Machine.execSoftRestart s
  | .attnWrite value => Sys2Proof.Machine.execAttnWrite value s
  | .attnenWrite value => Sys2Proof.Machine.execAttnenWrite value s
  | .registerWriteIgnored offset value => Sys2Proof.Machine.execRegisterWriteIgnored offset value s
  | .slatePickUp => Sys2Proof.Machine.execSlatePickUp s
  | .boardSweep => Sys2Proof.Machine.execBoardSweep s
  | .applySettings slot => Sys2Proof.Machine.execApplySettings slot s
  | .applySettingsCompletion => Sys2Proof.Machine.execApplySettingsCompletion s
  | .armDrive slot => Sys2Proof.Machine.execArmDrive slot s
  | .disarmDrive slot => Sys2Proof.Machine.execDisarmDrive slot s
  | .clearFallback slot => Sys2Proof.Machine.execClearFallback slot s
  | .clearFault slot => Sys2Proof.Machine.execClearFault slot s
  | .resetLockout slot => Sys2Proof.Machine.execResetLockout slot s
  | .startSelfLoad slot => Sys2Proof.Machine.execStartSelfLoad slot s
  | .stopSelfLoad slot => Sys2Proof.Machine.execStopSelfLoad slot s
  | .tareLoad slot => Sys2Proof.Machine.execTareLoad slot s
  | .tareLoadCompletion => Sys2Proof.Machine.execTareLoadCompletion s
  | .governorFrame => Sys2Proof.Machine.execGovernorFrame s
  | .dcLinkFrame => Sys2Proof.Machine.execDcLinkFrame s
  | .thermalFrame => Sys2Proof.Machine.execThermalFrame s
  | .steeringFrame => Sys2Proof.Machine.execSteeringFrame s
  | .strobe => Sys2Proof.Machine.execStrobe s
  | .strobeCompletion conversions => Sys2Proof.Machine.execStrobeCompletion conversions s
  | .speedEdge channel => Sys2Proof.Machine.execSpeedEdge channel s
  | .silenceEvent channel => Sys2Proof.Machine.execSilenceEvent channel s
  | .longWindowExpiry => Sys2Proof.Machine.execLongWindowExpiry s
  | .wMinExpiry => Sys2Proof.Machine.execWMinExpiry s
  | .wMaxExpiry => Sys2Proof.Machine.execWMaxExpiry s
  | .fallbackDecayStep => Sys2Proof.Machine.execFallbackDecayStep s
  | .exchangeStart => Sys2Proof.Machine.execExchangeStart s
  | .echoCheck => Sys2Proof.Machine.execEchoCheck s
  | .replyTimerExpiry => Sys2Proof.Machine.execReplyTimerExpiry s
  | .characterReceived char => Sys2Proof.Machine.execCharacterReceived char s
  | .assemblerDrain => Sys2Proof.Machine.execAssemblerDrain s
  | .frameEnd => Sys2Proof.Machine.execFrameEnd s
  | .muteEnd => Sys2Proof.Machine.execMuteEnd s
  | .lineStuckDetected => Sys2Proof.Machine.execLineStuckDetected s
  | .lineStuckCleared => Sys2Proof.Machine.execLineStuckCleared s
  | .haltStart => Sys2Proof.Machine.execHaltStart s
  | .haltEnd => Sys2Proof.Machine.execHaltEnd s
  | .phaseEnd => Sys2Proof.Machine.execPhaseEnd s
  | .stepEnd => Sys2Proof.Machine.execStepEnd s
  | .assemblerHoldEnd => Sys2Proof.Machine.execAssemblerHoldEnd s

end Sys2Proof.Machine
end

