-- ==== Sys2Proof/Safety.lean ====
section
/-! DEFINITION. The terms in which statements about the part are written: which words of the Exchange RAM a command may write, an
order posted in a slot and an order completed in it, the conditions and outcomes that the rules of each block name, and what every
state must keep to count as safe. -/

namespace Sys2Proof.Machine

/-! ## Words of the Exchange RAM (R184) -/

/-- R190: the words of a slot that the part writes: the Slot State, and the words from the Result Code to the
Completion Time. -/
def slotWord (slot : Fin 16) (a : Nat) : Prop := a = slotBase slot ∨ (slotBase slot + 9 ≤ a ∧ a < slotBase slot + 16)

/-- R194: the words of a fault record that the part writes after power-on: all but its Code word. -/
def faultWord (c : FaultCode) (a : Nat) : Prop := 0x0300 + 8 * c.index < a ∧ a < 0x0308 + 8 * c.index

/-- R192: the Status Page. -/
def pageWord (a : Nat) : Prop := 0x0140 ≤ a ∧ a < 0x0300

/-- R198: the header and the records of the Step Result list. -/
def resultWord (a : Nat) : Prop := 0x0600 ≤ a ∧ a < 0x0790

/-- R196: the words that a record formed now may write: those of the record's place in the current half, and the half's
release word. -/
def traceWord (s : State) (a : Nat) : Prop :=
  let first := s.trace.base + 1 + (1 + s.active.trace.selections.length) * s.trace.index
  a = s.trace.base ∨ (first ≤ a ∧ a < first + 1 + s.active.trace.selections.length)

/-- Every word of the RAM but those named reads in `t` as in `s`. -/
def keepsWords (s t : State) (but : Nat → Prop) : Prop := ∀ a, ¬ but a → t.readWord a = s.readWord a

/-- R187: no cause is cleared, and none is set but those of the list; RUNCTL and the enables are untouched. -/
def raisesOnly (s t : State) (causes : List Cause) : Prop :=
  t.window.runctl = s.window.runctl ∧ t.window.attnen = s.window.attnen ∧
  ∀ k, (s.window.attn.getLsbD k = true → t.window.attn.getLsbD k = true) ∧
    ((∀ c ∈ causes, c.mask.getLsbD k = false) → t.window.attn.getLsbD k = s.window.attn.getLsbD k)

/-! ## Orders (R189, R190) -/

/-- R190: the slot's order is TAKEN: the desk holds it for its owner. A POSTED written over that TAKEN posts nothing. -/
def slotTaken (s : State) (slot : Fin 16) : Prop :=
  s.desk.apply.map (fun o => o.slot) = some slot ∨ s.desk.start.map (fun o => o.slot) = some slot ∨
  s.desk.tare.map (fun o => o.slot) = some slot

/-- R189, R190: an order of a kind is POSTED in a slot, and the slot's order is not TAKEN. -/
def posted (s : State) (slot : Fin 16) (kind : Word) : Prop :=
  s.readWord (slotBase slot) = 1 ∧ s.readWord (slotBase slot + 2) = kind ∧ ¬ slotTaken s slot

/-- R190: a slot shows a completed order: Result Code, the four Result Detail words, Completion Time, and DONE. -/
def slotShows (t : State) (slot : Fin 16) (code d0 d1 d2 d3 : Word) (time : Nat) : Prop :=
  t.readWord (slotBase slot) = 3 ∧ t.readWord (slotBase slot + 9) = code ∧ t.readWord (slotBase slot + 10) = d0 ∧
  t.readWord (slotBase slot + 11) = d1 ∧ t.readWord (slotBase slot + 12) = d2 ∧ t.readWord (slotBase slot + 13) = d3 ∧
  t.readWord (slotBase slot + 14) = BitVec.ofNat 16 time ∧ t.readWord (slotBase slot + 15) = BitVec.ofNat 16 (time / 65536)

/-- R190: from `s` to `t` an order has been completed in its slot and nothing else has happened. -/
def onlyCompletes (s t : State) (slot : Fin 16) (code d0 d1 d2 d3 : Word) : Prop :=
  t = { s with ram := t.ram, window := s.window.raise .orderDone } ∧
  slotShows t slot code d0 d1 d2 d3 s.now ∧ keepsWords s t (slotWord slot)

/-- R189: the command of an order kind. -/
def orderCommand (k : OrderKind) (slot : Fin 16) : Instr :=
  match k with
  | .applySettings => .applySettings slot
  | .armDrive => .armDrive slot
  | .disarmDrive => .disarmDrive slot
  | .clearFallback => .clearFallback slot
  | .clearFault => .clearFault slot
  | .resetLockout => .resetLockout slot
  | .startSelfLoad => .startSelfLoad slot
  | .stopSelfLoad => .stopSelfLoad slot
  | .tareLoad => .tareLoad slot

/-- R189: the owner of an order kind holds a TAKEN order. Only the three owners whose orders take time can. -/
def ownerHolds (s : State) (k : OrderKind) : Prop :=
  match k with
  | .applySettings => s.desk.apply.isSome = true
  | .startSelfLoad => s.desk.start.isSome = true
  | .tareLoad => s.desk.tare.isSome = true
  | .armDrive | .disarmDrive | .clearFallback | .clearFault | .resetLockout | .stopSelfLoad => False

/-- R14: the table of the modes that permit an order. DISARM DRIVE in DISARMED is permitted and changes nothing. -/
def permittedIn : OrderKind → Mode → Bool
  | .applySettings, .unconfigured | .applySettings, .disarmed => true
  | .armDrive, .disarmed => true
  | .disarmDrive, .disarmed | .disarmDrive, .armed | .disarmDrive, .fallback => true
  | .clearFallback, .fallback => true
  | .clearFault, _ => true
  | .resetLockout, .fallback => false
  | .resetLockout, _ => true
  | .startSelfLoad, .disarmed => true
  | .stopSelfLoad, .selfLoad => true
  | .tareLoad, .fallback => false
  | .tareLoad, _ => true
  | _, _ => false

/-- R7: condition `k` of ARM DRIVE, by its bit. -/
def armConditionHolds (s : State) (k : Nat) : Prop :=
  match k with
  | 0 => (s.station .inverterL).state = .present
  | 1 => (s.station .inverterR).state = .present
  | 2 => (s.station .chopper).state = .present
  | 3 => s.grid.bankA.stage = .ready ∨ s.grid.bankA.stage = .derated ∨ s.grid.bankB.stage = .ready ∨
      s.grid.bankB.stage = .derated
  | 4 => 3 ≤ s.supervision.goodCount
  | 5 => s.supervision.failureCount < 8
  | 6 => s.steer.state ≠ .failed
  | 7 => ∀ c : FaultCode, c.isTripCause = true → (s.fault c).latched = false
  | 8 => s.desk.apply = none
  | _ => True

/-- R195: whether an owner acts on the clearing of a code, as the Steering Servo stands. -/
def clearingActs (s : State) (c : FaultCode) : Bool :=
  c = .bankACircuit || c = .bankBCircuit || c = .dcLinkOvervoltage || c = .linkEcho || s.steer.failCause = some c

/-- R174: the arguments of a START SELF-LOAD, as the words of its slot hold them. -/
def startArguments (s : State) (slot : Fin 16) : StartArguments :=
  let word : Nat → Nat := fun k => (s.readWord (slotBase slot + 3 + k)).toNat
  { shape := word 0 % 256, banks := word 0 / 256, count := word 1, stepDuration := word 2, totalDuration := word 3,
    leadIn := word 4, leadOut := word 5 }

/-- R174: the ranges of the arguments, and the check of the durations. -/
def startArgumentsInRange (a : StartArguments) : Prop :=
  a.banks ≤ 2 ∧ 100 ≤ a.stepDuration ∧ a.stepDuration ≤ 60000 ∧ 100 ≤ a.totalDuration ∧ a.leadIn ≤ 60000 ∧
  a.leadOut ≤ 60000 ∧
  ((a.shape = 0 ∧ (a.count = 1 ∨ a.count = 2 ∨ a.count = 4 ∨ a.count = 8) ∧
      100 + a.leadIn + a.leadOut + (a.count - 1) * a.stepDuration ≤ a.totalDuration) ∨
    (a.shape = 1 ∧ 1 ≤ a.count ∧ a.count ≤ 12 ∧ 100 + a.leadIn + a.leadOut ≤ a.totalDuration))

/-- R174: argument `k` of a START SELF-LOAD is out of its range. -/
def startArgumentFails (a : StartArguments) (k : Nat) : Prop :=
  match k with
  | 0 => 1 < a.shape ∨ 2 < a.banks
  | 1 => (a.shape = 0 ∧ a.count ≠ 1 ∧ a.count ≠ 2 ∧ a.count ≠ 4 ∧ a.count ≠ 8) ∨
      (a.shape = 1 ∧ (a.count = 0 ∨ 12 < a.count))
  | 2 => a.stepDuration < 100 ∨ 60000 < a.stepDuration
  | 3 => a.totalDuration < 100
  | 4 => 60000 < a.leadIn
  | 5 => 60000 < a.leadOut
  | _ => False

/-- R174: condition `k` of the last check of a START SELF-LOAD, by its bit; a bank that is not selected is not checked. -/
def startConditionHolds (s : State) (a : StartArguments) (k : Nat) : Prop :=
  match k with
  | 0 => (s.station .chopper).state = .present
  | 1 => a.banks ≠ 1 → s.grid.bankA.stage = .ready ∨ s.grid.bankA.stage = .derated
  | 2 => a.banks ≠ 0 → s.grid.bankB.stage = .ready ∨ s.grid.bankB.stage = .derated
  | _ => True

/-- R189: the slot is POSTED, and the stamp of every POSTED slot lies at most 32767 after its own. -/
def stampsFollow (s : State) (slot : Fin 16) : Prop :=
  s.readWord (slotBase slot) = 1 ∧
  ∀ x : Fin 16, s.readWord (slotBase x) = 1 → stampDistance (s.postStamp slot) (s.postStamp x) ≤ 32767

/-- The state with the board sweep timer started again, as a sweep leaves it. -/
def sweepRestarted (s : State) : State :=
  { s with timers := { s.timers with sweep := s.timers.sweep.map (fun _ => s.us + 1000) } }

/-- R5, R186: the commands of the two resets that keep settings. -/
def restartCommand : ResetKind → Instr
  | .board => .boardReset
  | .soft => .softRestart

/-! ## The governor frame -/

/-- R25, R26: the frame that starts now changes the travel sense in ARMED, which starts the integrator and both ramps from 0. -/
def turnsOver (s : State) : Bool :=
  s.drive.mode = .armed && s.exchange.slate.direction ≠ s.drive.held && decide (s.speed.v < 5) &&
    ((s.exchange.slate.direction = .forward && s.drive.travel = .reverse) ||
      (s.exchange.slate.direction = .reverse && s.drive.travel = .forward))

/-- R18: a limit with its binding row, as the table of `t` gives them: an active row of the quantity that covers the wheel has
that number and that Value, no such row has a lower Value, and none of a lower number has the same. -/
def bindsAt (t : State) (q : Quantity) (w : Wheel) (limit : Int) (row : Nat) : Prop :=
  ∃ r : RowId, r.number = row ∧ r.quantity = q ∧ r.covers w = true ∧ (t.row r).active = true ∧ (t.row r).value = limit ∧
    ∀ x : RowId, x.quantity = q → x.covers w = true → (t.row x).active = true →
      limit ≤ (t.row x).value ∧ (x.number < row → (t.row x).value ≠ limit)

/-! ## The Grid Manager -/

/-- R194: the codes that the Grid Manager reports. -/
def gridCodes : List FaultCode :=
  [.dcLinkOvervoltage, .dcLinkUndervoltage, .bankATrip, .bankBTrip, .bankALockout, .bankBLockout, .bankACircuit, .bankBCircuit,
   .bankAAirOvertemp, .bankBAirOvertemp, .blowerAFault, .blowerBFault]

/-- R53: a bank's duty sum. -/
def dutySum (s : State) : BankId → Int
  | .a => s.grid.sums.dutyA
  | .b => s.grid.sums.dutyB

/-- R53: a bank's current sum. -/
def currentSum (s : State) : BankId → Int
  | .a => s.grid.sums.iA
  | .b => s.grid.sums.iB

/-- R65: the two banks hold the duties of the distribution of a total over those that are READY or DERATED: an equal floored
share, at most the cap, and of the rest first bank A and then bank B as much as its cap leaves. -/
def sharesOut (total : Int) (a b : Bank) : Prop :=
  let count : Int := (if a.available then 1 else 0) + (if b.available then 1 else 0)
  let shareA := if a.available then min (total / count) a.derate else 0
  let shareB := if b.available then min (total / count) b.derate else 0
  let rest := total - shareA - shareB
  let moreA := if a.available then min rest (a.derate - shareA) else 0
  let moreB := if b.available then min (rest - moreA) (b.derate - shareB) else 0
  a.duty = shareA + moreA ∧ b.duty = shareB + moreB

/-- R61: a bank's Derate in `t` is that of its Stage and θ there, under the settings of `s`, with the blower reduction where the
bank's blower fault is Active in `s`. For a DERATED bank with θ at Trip θ or above the share is free in [1, 1000] (the model's
choice, assumption log 51). -/
def derateFollows (s t : State) (k : BankId) : Prop :=
  ∃ share : Int, (t.bank k).derate =
      (if (s.fault k.blowerCode).active = true then share * (s.bankSettings k).noBlower / 1000 else share) ∧
    ((t.bank k).stage = .ready → share = 1000) ∧
    ((t.bank k).stage = .derated → (t.bank k).theta < (s.bankSettings k).tripTheta →
      share = 1000 * ((s.bankSettings k).tripTheta - (t.bank k).theta) /
        ((s.bankSettings k).tripTheta - (s.bankSettings k).warnTheta)) ∧
    ((t.bank k).stage = .derated → (s.bankSettings k).tripTheta ≤ (t.bank k).theta → 1 ≤ share ∧ share ≤ 1000) ∧
    ((t.bank k).stage = .tripped ∨ (t.bank k).stage = .lockedOut ∨ (t.bank k).stage = .offline → share = 0)

/-- R62: P_avail in `t` is that of the Derates there, under the settings of `s`. -/
def powerFollows (s t : State) : Prop :=
  t.grid.pAvail = min s.inForce.grids.inverterRetardMax
    ((s.bankSettings .a).ratedPower * t.grid.bankA.derate / 1000 + (s.bankSettings .b).ratedPower * t.grid.bankB.derate / 1000)

/-- R48: a bank's offline condition. -/
def isOffline (s : State) (k : BankId) : Prop :=
  (s.bankSettings k).enabled = false ∨ (s.station .chopper).state ≠ .present ∨ s.chopperReply.ready = false

/-- R48: the Stage that the settling gives a bank with its record. -/
def settlesTo (s : State) (k : BankId) (b : Bank) (stage : Stage) : Prop :=
  (isOffline s k → stage = .offline) ∧
  (¬ isOffline s k → b.modelRunning = false ∨ b.theta < (s.bankSettings k).warnTheta → stage = .ready) ∧
  (¬ isOffline s k → b.modelRunning = true → (s.bankSettings k).warnTheta ≤ b.theta → stage = .derated)

/-- R49: from `s` to `t` a bank has tripped with a cause. -/
def bankTripped (s t : State) (k : BankId) (cause : BankTrip) : Prop :=
  (t.bank k).lastTripCause = some cause ∧ (t.bank k).derate = 0 ∧
  (t.bank k).tripHistory = (s.bank k).tripHistory.filter
    (fun x => elapsed s.now x ≤ 1000 * s.inForce.grids.lockoutWindow) ++ [s.now] ∧
  (t.bank k).stage = (if 3 ≤ (t.bank k).tripHistory.length then .lockedOut else .tripped) ∧
  (3 ≤ (t.bank k).tripHistory.length → (t.fault k.lockoutCode).active = true) ∧
  (t.fault k.tripCode).active = true ∧ (t.fault k.tripCode).detail = cause.code ∧
  ((s.fault k.tripCode).active = false → (t.fault k.tripCode).latched = true)

/-- R57: the circuit check of a thermal frame over one DC-link frame or more is made for a bank and fails. -/
def circuitCheckFails (s : State) (k : BankId) : Prop :=
  let n : Int := s.grid.sums.frames
  let duty := dutySum s k / n
  let e := s.grid.sums.v / n * duty / (s.bankSettings k).resistance
  let i := currentSum s k / n
  200 ≤ duty ∧ s.grid.sums.vInvalid = false ∧ s.grid.sums.currentInvalid k = false ∧ ¬ (e ≤ 2 * i ∧ 2 * i ≤ 3 * e)

/-! ## The self-load test -/

/-- R174: a pattern selects a bank. -/
def selects (p : Pattern) : BankId → Bool
  | .a => p.selectA
  | .b => p.selectB

/-- R178: a step's mean; 0 where no frame added to it. -/
def meanOr0 (sum : Int) (count : Nat) : Int := if count = 0 then 0 else sum / count

/-- R178, R198: from `s` to `t` the step in progress has closed: its record stands in the list where fewer than 32 were in it, and
is counted as unrecorded otherwise. -/
def stepClosed (s t : State) (cut : Bool) : Prop :=
  let g := s.selfLoad
  let first := 0x0610 + 12 * g.header.recorded
  let v := meanOr0 g.sums.v g.sums.vCount
  let iA := meanOr0 g.sums.iA g.sums.iACount
  let iB := meanOr0 g.sums.iB g.sums.iBCount
  (g.header.recorded < 32 → t.selfLoad.header.recorded = g.header.recorded + 1 ∧
    t.selfLoad.header.unrecorded = g.header.unrecorded ∧
    t.readWord first = wordOf g.stepIndex ∧ t.readWord (first + 1) = wordOf g.stepLevel ∧
    t.readWord (first + 2) = wordOf (elapsed s.now g.stepStart) ∧ t.readWord (first + 3) = wordOf v ∧
    t.readWord (first + 4) = wordOf iA ∧ t.readWord (first + 5) = wordOf iB ∧
    t.readWord (first + 6) = wordOf (v * iA / 1000) ∧ t.readWord (first + 7) = wordOf (v * iB / 1000) ∧
    (∀ k, (t.readWord (first + 8)).getLsbD k = true ↔ (k = 0 ∧ cut = true) ∨
      (k = 1 ∧ (g.sums.vCount = 0 ∨ g.sums.iACount = 0 ∨ g.sums.iBCount = 0))) ∧
    t.readWord (first + 9) = 0 ∧ t.readWord (first + 10) = 0 ∧ t.readWord (first + 11) = 0) ∧
  (32 ≤ g.header.recorded → t.selfLoad.header.recorded = g.header.recorded ∧
    t.selfLoad.header.unrecorded = g.header.unrecorded + 1)

/-- R181: from `s` to `t` the test in progress in SELF-LOAD has aborted with a cause. -/
def testAborted (s t : State) (c : AbortCause) : Prop :=
  t.drive.mode = .disarmed ∧ t.drive.since = s.now ∧ t.selfLoad.phase = .idle ∧ t.desk.start = none ∧
  t.timers.phase = none ∧ t.timers.step = none ∧ t.selfLoad.givenA = 0 ∧ t.selfLoad.givenB = 0 ∧
  t.selfLoad.header.testState = .aborted ∧ t.selfLoad.header.abortCause = some c ∧
  t.readWord 0x0600 = 3 ∧ t.readWord 0x0601 = BitVec.ofNat 16 c.code ∧
  (s.selfLoad.phase = .body → s.selfLoad.stepOpen = true → stepClosed s t true) ∧
  (∀ o, s.desk.start = some o → slotShows t o.slot 8 (BitVec.ofNat 16 c.code) (BitVec.ofNat 16 s.selfLoad.phase.code)
    (if s.selfLoad.phase = .body then wordOf s.selfLoad.stepIndex else 0) (wordOf s.selfLoad.stepsRun) s.now)

/-- R63: the link voltage of a DC-link frame: the role's value where it is VALID, and the last one otherwise (in NEVER the model's
choice, assumption log 61). -/
def frameVoltage (s : State) : Int :=
  if (s.sample .dcLinkVoltage).state = .valid then (s.sample .dcLinkVoltage).value else s.grid.v

/-- R63, R67: the overvoltage state is HIGH after a DC-link frame. -/
def highAfter (s : State) : Bool :=
  if (s.sample .dcLinkVoltage).state = .valid then
    decide (if s.grid.ovHigh then s.inForce.grids.vOv - s.inForce.grids.ovHysteresis ≤ (s.sample .dcLinkVoltage).value
      else s.inForce.grids.vOv ≤ (s.sample .dcLinkVoltage).value)
  else s.grid.ovHigh

/-- R68: a DC-link frame in HIGH at which OV Persist is reached in an episode not yet reported. That this may be a frame whose
voltage is not VALID is the model's reading of R63 (assumption log 31); that a frame which ends HIGH is none is log 67. -/
def persistReached (s : State) : Prop :=
  s.grid.ovHigh = true ∧ highAfter s = true ∧ s.grid.ovReported = false ∧
  s.inForce.grids.ovPersist ≤ elapsed s.now s.grid.ovEntry

/-- R63, R67, R72: the duty that a frame of a test leaves a bank that is READY or DERATED, the generator having given one: 0 in
NEVER, 1000 in HIGH, and otherwise the given duty within the bank's cap. -/
def testDutyOf (s : State) (given cap : Int) : Int :=
  if (s.sample .dcLinkVoltage).state = .never then 0 else if highAfter s then 1000 else min given cap

/-- R177: the duty the generator gives a bank in a DC-link frame with a link voltage. -/
def levelDuty (s : State) (v : Int) (k : BankId) : Int :=
  if s.selfLoad.phase = .body ∧ selects s.selfLoad.pattern k = true ∧ v ≠ 0 then
    min 1000 (s.selfLoad.stepLevel * (s.bankSettings k).ratedPower * (s.bankSettings k).resistance / (v * v))
  else 0

/-! ## The Load Monitor and the Scan Unit -/

/-- R108: the sprung mass of the four strut readings. -/
def strutMass (s : State) : Int :=
  ((s.sample .strutFL).value * s.active.load.areaFL + (s.sample .strutFR).value * s.active.load.areaFR +
    (s.sample .strutRL).value * s.active.load.areaRL + (s.sample .strutRR).value * s.active.load.areaRR) / 9810

/-- R108: every strut role is VALID. -/
def strutsValid (s : State) : Prop := ∀ r ∈ strutRoles, (s.sample r).state = .valid

/-- R108: a pass that starts in `s` yields a weighing sample. -/
def weighs (s : State) : Prop :=
  strutsValid s ∧ s.load.tareSet = true ∧ s.speed.v < 5 ∧ s.exchange.slate.bodyRaised = false

/-- R112: the side of the pass's weighing sample. -/
def sampleSide (s : State) : BandSide :=
  if strutMass s - s.load.tare < s.active.load.emptyBand then .below else .atOrAbove

/-- R112: the band run of a side is met for 2 s at the pass. -/
def bandRun (s : State) (side : BandSide) : Prop :=
  weighs s ∧ sampleSide s = side ∧ ∃ since, s.load.band = some (since, side) ∧ 2000 ≤ elapsed s.now since

/-- R112: the move run is met for 5 s at the pass. -/
def moveRun (s : State) : Prop :=
  30 ≤ s.speed.v ∧ ∃ since, s.load.moveSince = some since ∧ 5000 ≤ elapsed s.now since

/-- R111: the Weigh Buffer after a pass in LOADING. -/
def bufferAfter (s : State) (buffer : List Int) : Prop :=
  (¬ weighs s → buffer = s.load.weighBuffer) ∧
  (weighs s → buffer = (if 16 ≤ s.load.weighBuffer.length then s.load.weighBuffer.drop 1 else s.load.weighBuffer) ++
    [strutMass s - s.load.tare])

/-- R118: the class that a ratio gives. -/
def classFromRatio (c : LoadSettings) (unweighed : Bool) (r : Int) : LoadClass :=
  if unweighed = true then .normal else if c.class2Threshold < r then .class2
  else if c.class1Threshold < r then .class1 else .normal

/-- R152, R153: a role's Sample Table entry after a strobe with its codes. -/
def sampledAs (old new : Sample) (e : ScanEntry) (limits : RoleLimits) (codes : List (BitVec 14)) : Prop :=
  let mean : Int := (codes.map (fun x => (x.toNat : Int))).sum / e.averaging
  let v : Int := max (-32768) (min 32767 (e.offset + mean * e.scale / 4096))
  (0 ∈ codes ∨ 16383 ∈ codes → new = { old with state := .outOfRange, outCause := some .saturated }) ∧
  (0 ∉ codes → 16383 ∉ codes →
    (v < limits.low → new = { old with state := .outOfRange, lastRead := v, outCause := some .low }) ∧
    (limits.low ≤ v → limits.high < v → new = { old with state := .outOfRange, lastRead := v, outCause := some .high }) ∧
    (limits.low ≤ v → v ≤ limits.high → new = { state := .valid, value := v, lastRead := v, outCause := none }))

/-- R154: SCAN ROLE RANGE after a role's entry has been written: a role that goes out of range is reported with its number as
Detail, also where the record is Active already; one that stays out of range is not reported again; an empty out-of-range set is
reported absent; and a role that is in range while another is out leaves the record alone. -/
def rangeReported (s t : State) (r : Role) : Prop :=
  let old := s.fault .scanRoleRange
  let new := t.fault .scanRoleRange
  ((t.sample r).state = .outOfRange → (s.sample r).state ≠ .outOfRange →
    new.active = true ∧ new.detail = r.number ∧ (old.active = true → new = { old with detail := r.number })) ∧
  ((t.sample r).state = .outOfRange → (s.sample r).state = .outOfRange → new = old) ∧
  ((∀ x, (t.sample x).state ≠ .outOfRange) → new.active = false) ∧
  ((t.sample r).state ≠ .outOfRange → (∃ x, (t.sample x).state = .outOfRange) → new = old)

/-- R153, R154, R155: the state that the last strobe of a list leaves to the scan-pass event, with a role's new entry. -/
def scanned (s : State) (r : Role) (x : Sample) : State :=
  let u := s.writeSample r x
  State.publishScan { u with scan := { u.scan with index := 0, passNumber := (s.scan.passNumber + 1) % 65536, busy := false } }

/-! ## The Steering Servo, the Speed Timers and the Supervision Monitor -/

/-- R194: the codes that a steering frame reports. -/
def steerCodes : List FaultCode := [.steerSupplyLow, .steerTracking, .steerFeedbackInvalid, .steerAccumulatorLow]

/-- R194: the codes that the Speed Timers report. -/
def speedCodes : List FaultCode := [.speedSensorFrontL, .speedSensorFrontR, .referenceDegraded]

/-- R160: the ground speed and its mark follow the front channels that are usable, from `s` to `t`, with REFERENCE DEGRADED
reported present when the mark becomes DEGRADED, absent when it leaves DEGRADED, and left alone otherwise. -/
def referenceFollows (s t : State) : Prop :=
  let l := t.channel .frontL
  let r := t.channel .frontR
  (l.state ≠ .failed → r.state ≠ .failed → t.speed.v = (l.speed + r.speed) / 2 ∧ t.speed.mark = .frontBoth) ∧
  (l.state ≠ .failed → r.state = .failed → t.speed.v = l.speed ∧ t.speed.mark = .frontLOnly) ∧
  (l.state = .failed → r.state ≠ .failed → t.speed.v = r.speed ∧ t.speed.mark = .frontROnly) ∧
  (l.state = .failed → r.state = .failed →
    t.speed.v = min (t.channel .rearL).speed (t.channel .rearR).speed ∧ t.speed.mark = .degraded) ∧
  (s.speed.mark ≠ .degraded → t.speed.mark = .degraded → (t.fault .referenceDegraded).active = true) ∧
  (s.speed.mark = .degraded → t.speed.mark ≠ .degraded → (t.fault .referenceDegraded).active = false) ∧
  ((s.speed.mark = .degraded ↔ t.speed.mark = .degraded) → t.fault .referenceDegraded = s.fault .referenceDegraded)

/-- R159: a front channel with the other one, and the other one's sensor fault. -/
def partnerOf (c o : Channel) (f : FaultCode) : Prop :=
  (c = .frontL ∧ o = .frontR ∧ f = .speedSensorFrontR) ∨ (c = .frontR ∧ o = .frontL ∧ f = .speedSensorFrontL)

/-- R165: the three commands that are a supervision failure, with the failure each is. -/
def failsSupervision (s : State) (c : Instr) (kind : FailureKind) : Prop :=
  s.supervision.running = true ∧
  ((c = .longWindowExpiry ∧ s.supervision.window = .longWindow ∧ kind = .late) ∨
    (c = .wMaxExpiry ∧ s.supervision.window = .validZone ∧ kind = .late) ∨
    (c = .slatePickUp ∧ s.supervision.window = .earlyZone ∧ kind = .early ∧ s.readWord 0 = s.readWord 10 ∧
      s.exchange.lastStamp ≠ some (s.readWord 0) ∧ (s.readWord 1).toNat ≠ s.exchange.slate.heartbeat))

/-! ## The Wheel Link -/

/-- R130: the conditions of an exchange's start, beside the idle line that the command stands for: none in progress, the
transmitter ENABLED, no character and no HALT due or on the line, and the line not stuck. -/
def linkIsFree (s : State) : Prop :=
  s.link.exchange = none ∧ s.link.enabled = true ∧ s.link.sending = none ∧ s.link.haltPending = false ∧
  s.link.halting = false ∧ s.link.stuck = false

/-- R140: the echo of the character being sent has come, with its data and its mark, and without an error flag. -/
def echoMatches (x : Sending) : Prop :=
  ∃ c : RxChar, x.echo = some c ∧ c.data = x.char.data ∧ c.mark = x.char.mark ∧ c.noise = false ∧ c.framing = false ∧
    c.parity = false

/-- R140: the check at the end of a character-time finds the echo that was due, and leaves the link `b` for the next character:
the echo of the character before passes, and the echo of the character that ends passes too, or has not come and is awaited. -/
def echoPassed (s : State) (b : Link) : Prop :=
  (∀ w, s.link.awaited = some w → echoMatches w) ∧
  ((∃ x, s.link.sending = some x ∧ x.echo = none ∧ b = { s.link with sending := none, awaited := some x }) ∨
    (∃ x, s.link.sending = some x ∧ echoMatches x ∧ b = { s.link with sending := none, awaited := none }) ∨
    (s.link.sending = none ∧ s.link.awaited.isSome = true ∧ b = { s.link with awaited := none }))

/-- R140: the check fails, for a character sent to the station: the echo that was due is missing or differs, or the character that
ends has an echo that differs. -/
def echoFails (s : State) (n : StationId) : Prop :=
  (∃ w, s.link.awaited = some w ∧ ¬ echoMatches w ∧ n = w.station) ∨
  ((∀ w, s.link.awaited = some w → echoMatches w) ∧
    ∃ x, s.link.sending = some x ∧ x.echo ≠ none ∧ ¬ echoMatches x ∧ n = x.station)

/-- R132: no sent character waits for its echo. -/
def noEchoDue (x : Link) : Prop :=
  (∀ w, x.awaited = some w → w.echo ≠ none) ∧ (∀ y, x.sending = some y → y.echo ≠ none)

/-- R134: the command ends the frame `f` of the exchange in progress with the idle span: at the span where every character has
been drained, and otherwise in the drain that takes the last character which arrived before it (assumption log 60). -/
def endsFrame (s : State) (c : Instr) (e : ExchangeInProgress) (f : Frame) : Prop :=
  s.link.exchange = some e ∧ s.link.muted = false ∧
  ((c = .frameEnd ∧ e.windowOpen = true ∧ e.gotFirst = true ∧ s.link.queue = [] ∧ s.link.frame.chars ≠ [] ∧ f = s.link.frame) ∨
    (c = .assemblerDrain ∧ s.link.held = false ∧ e.endsAfter = some 1 ∧ s.link.frame.chars.length < 11 ∧
      ∃ x rest, s.link.queue = x :: rest ∧ f = { s.link.frame with chars := s.link.frame.chars ++ [x] }))

/-- R131, R134, R135: the four commands that end an exchange badly, with the reason each gives. -/
def endsBadly (s : State) (c : Instr) (e : ExchangeInProgress) (r : Reason) : Prop :=
  (c = .replyTimerExpiry ∧ e.windowOpen = true ∧ e.gotFirst = false ∧ r = .missing) ∨
  (c = .muteEnd ∧ s.link.muted = true ∧ r = (if e.stray then .stray else e.judged.getD .length)) ∨
  (∃ f, endsFrame s c e f ∧ f.judge e.station e.counter false = some r)

/-- R136: a frame has its header: the address match has not marked it NO HEADER, and its first character has MARK set. -/
def frameHasHeader (f : Frame) : Prop := f.noHeader = false ∧ ∀ c, f.chars.head? = some c → c.mark = true

/-- R136: the conditions of a GOOD frame. -/
def frameIsGood (f : Frame) (n : StationId) (counter : Nat) : Prop :=
  frameHasHeader f ∧ f.overrun = false ∧
  (∀ c ∈ f.chars, c.noise = false ∧ c.framing = false ∧ c.parity = false) ∧ (∀ c ∈ f.chars.drop 1, c.mark = false) ∧
  f.chars.length = (match n with
    | .inverterL => 9
    | .inverterR => 9
    | .chopper => 4
    | .valve => 6) ∧
  ((f.chars.map (fun c : RxChar => c.data)).headD 0).toNat / 16 = n.commandKind + 8 ∧
  (f.chars.map (fun c : RxChar => c.data.toNat)).sum % 256 = 0 ∧
  ((f.chars.map (fun c : RxChar => c.data)).getD (f.chars.length - 2) 0).toNat = counter

/-- R136: a frame with its header, without overrun, whose characters carry no error flag and whose first character alone is
marked: none of the first four reasons applies. -/
def frameIsPlain (f : Frame) : Prop :=
  frameHasHeader f ∧ f.overrun = false ∧
  (∀ c ∈ f.chars, c.noise = false ∧ c.framing = false ∧ c.parity = false) ∧ ∀ c ∈ f.chars.drop 1, c.mark = false

/-- R127: the kind that a frame's header names. -/
def frameKind (f : Frame) : Nat := ((f.chars.map (fun c : RxChar => c.data)).headD 0).toNat / 16

/-- R136: a frame has another number of characters than its kind, where R127 has that kind (assumption log 21). -/
def lengthFails (f : Frame) (long : Bool) : Prop := long = true ∨ ∃ m, frameLength (frameKind f) = some m ∧ f.chars.length ≠ m

/-- R127: the signed value of a field of two characters, the low byte first, in two's complement. -/
def signedField (low high : BitVec 8) : Int :=
  if high.toNat < 128 then low.toNat + 256 * high.toNat else (low.toNat : Int) + 256 * high.toNat - 65536

/-- R127: a reply carries the fields that the characters of a station's frame hold: the header first, then the payload of the
station's kind of reply, its flags one per data bit with bit 0 the least significant. -/
def replyCarries (n : StationId) (data : List (BitVec 8)) (reply : Reply) : Prop :=
  let char : Nat → BitVec 8 := fun k => data.getD k 0
  match n with
  | .inverterL | .inverterR => ∃ r, reply = .torque r ∧ r.torque = signedField (char 1) (char 2) ∧
      r.rpm = (char 3).toNat + 256 * (char 4).toNat ∧ r.winding = (char 5).toNat ∧ r.fault = (char 6).getLsbD 0 ∧
      r.derated = (char 6).getLsbD 1 ∧ r.ready = (char 6).getLsbD 2
  | .chopper => ∃ r, reply = .chopper r ∧ r.blowerA = (char 1).getLsbD 0 ∧ r.blowerB = (char 1).getLsbD 1 ∧
      r.faultA = (char 1).getLsbD 2 ∧ r.faultB = (char 1).getLsbD 3 ∧ r.ready = (char 1).getLsbD 4
  | .valve => ∃ r, reply = .valve r ∧ r.spool = signedField (char 1) (char 2) ∧ r.fault = (char 3).getLsbD 0 ∧
      r.pump = (char 3).getLsbD 1

/-- R38: the station of a wheel's inverter. -/
def wheelStation : Wheel → StationId
  | .left => .inverterL
  | .right => .inverterR

/-! ## The Trace Recorder -/

/-- R196: the quantity of a number, as the page of the frame that ended in `t` shows it. -/
def traceQuantity (t : State) : Nat → Int
  | 1 => t.drive.limits.ls
  | 2 => t.drive.limits.pl
  | 3 => t.drive.limits.pr
  | 4 => t.drive.limits.rl
  | 5 => t.drive.limits.rr
  | 6 => t.drive.limits.lsRow
  | 7 => t.drive.qL
  | 8 => t.drive.qR
  | 9 => t.speed.v
  | 10 => (t.channel .frontL).speed
  | 11 => (t.channel .frontR).speed
  | 12 => (t.channel .rearL).speed
  | 13 => (t.channel .rearR).speed
  | 14 => (t.sample .dcLinkVoltage).value
  | 15 => t.published.grid.bankA.theta
  | 16 => t.published.grid.bankB.theta
  | 17 => t.published.grid.bankA.duty
  | 18 => t.published.grid.bankB.duty
  | 19 => t.published.grid.pAvail
  | 20 => t.published.steer.target
  | 21 => t.published.steer.measured
  | 22 => t.published.steer.flow
  | 23 => t.published.load.livePayload
  | 24 => t.published.load.payloadUsed
  | 25 => 1000 * t.published.motorL.budget / t.published.motorL.budgetMax
  | 26 => 1000 * t.published.motorR.budget / t.published.motorR.budgetMax
  | 27 => t.published.link.stations[StationId.inverterL.index].missRun
  | 28 => t.published.link.stations[StationId.inverterR.index].missRun
  | 29 => t.published.link.stations[StationId.chopper.index].missRun
  | 30 => t.published.link.stations[StationId.valve.index].missRun
  | 31 => t.published.supervision.failureCount
  | 32 => (t.row .fallbackSpeed).value
  | _ => 0

/-! ## The Drive Mode (1.1) -/

/-- 1.1: the two modes in which wheel torque is commanded. -/
def Mode.drives (m : Mode) : Bool := m = .armed || m = .fallback

/-- 1.1: the changes of the Drive Mode that one event other than a reset may make. -/
def modeChange (old new : Mode) : Prop :=
  old = new ∨
  match old, new with
  | .unconfigured, .disarmed => True
  | .disarmed, .armed => True
  | .armed, .disarmed => True
  | .fallback, .disarmed => True
  | .armed, .fallback => True
  | .fallback, .armed => True
  | .armed, .tripped => True
  | .fallback, .tripped => True
  | .tripped, .disarmed => True
  | .disarmed, .selfLoad => True
  | .selfLoad, .disarmed => True
  | _, _ => False

/-! ## What every state keeps -/

/-- R23, R37, R38: outside ARMED and FALLBACK the wheel commands are 0 and both torque records carry torque 0 with ENABLE
clear. -/
def torqueOff (s : State) : Prop :=
  s.drive.mode.drives = false →
    s.drive.qL = 0 ∧ s.drive.qR = 0 ∧
    s.link.outgoing.left.torque = 0 ∧ s.link.outgoing.left.enable = false ∧
    s.link.outgoing.right.torque = 0 ∧ s.link.outgoing.right.enable = false

/-- R15: every row's Value lies in the range of its quantity, and its Changes do not pass 65535. -/
def rowsInRange (s : State) : Prop :=
  ∀ r : RowId, 0 ≤ (s.row r).value ∧ (s.row r).value ≤ r.quantity.top ∧ (s.row r).changes ≤ 65535

/-- R188: every field of the Accepted Slate but Steering Demand lies in its range. -/
def slateInRange (x : Slate) : Prop :=
  0 ≤ x.propel ∧ x.propel ≤ 1000 ∧ 0 ≤ x.retard ∧ x.retard ≤ 1000 ∧ 0 ≤ x.speedHold ∧ x.speedHold ≤ 900 ∧
  0 ≤ x.zoneSpeed ∧ x.zoneSpeed ≤ 900 ∧ -300 ≤ x.grade ∧ x.grade ≤ 300

/-- R36: a wheel's signed command lies within the limits that its frame took. -/
def commandsWithinLimits (s : State) : Prop :=
  -s.drive.limits.rl ≤ s.drive.qL ∧ s.drive.qL ≤ s.drive.limits.pl ∧
  -s.drive.limits.rr ≤ s.drive.qR ∧ s.drive.qR ≤ s.drive.limits.pr

/-- R194: a record that is Active is Latched, unless a reset or a CLEAR FAULT has cleared it; a Count does not pass 255. -/
def faultsSound (s : State) : Prop :=
  ∀ c : FaultCode, ((s.fault c).active = true → (s.fault c).latched = true) ∧ (s.fault c).count ≤ 255

/-- R184, R194: words 1 to 7 of every fault record read in the RAM as the Exchange Unit holds the record. The truck controller
may overwrite them, so this is kept only by steps. -/
def faultsPublished (s : State) : Prop :=
  ∀ c : FaultCode, s.readWords (0x0301 + 8 * c.index) 7 = faultWords (s.fault c)

/-- R18: the five effective limits lie in the ranges of their quantities. -/
def limitsInRange (s : State) : Prop :=
  let l := s.drive.limits
  0 ≤ l.ls ∧ l.ls ≤ 900 ∧ 0 ≤ l.pl ∧ l.pl ≤ 1000 ∧ 0 ≤ l.pr ∧ l.pr ≤ 1000 ∧ 0 ≤ l.rl ∧ l.rl ≤ 1000 ∧
  0 ≤ l.rr ∧ l.rr ≤ 1000

/-- R163, R167, R168, R169: Decay Running is set exactly in FALLBACK, where row 7 is active, and FALLBACK LATCHED is Active
exactly while the Failure Count is 8 or more. -/
def fallbackSound (s : State) : Prop :=
  (s.supervision.decayRunning = true ↔ s.drive.mode = .fallback) ∧
  (s.drive.mode = .fallback → (s.row .fallbackSpeed).active = true) ∧
  ((s.fault .fallbackLatched).active = true ↔ 8 ≤ s.supervision.failureCount)

/-- R13, R173: a test is in progress exactly in SELF-LOAD, and exactly then its START SELF-LOAD is held. -/
def testSound (s : State) : Prop :=
  (s.selfLoad.phase ≠ .idle ↔ s.drive.mode = .selfLoad) ∧ (s.selfLoad.phase ≠ .idle ↔ s.desk.start.isSome = true)

/-- R5, R186: the command is a board reset, or a soft restart that starts. -/
def restarts (s : State) : Instr → Bool
  | .boardReset => true
  | .softRestart => s.window.runctl = 0
  | .registerWriteIgnored offset value => offset = 2 && value = 1 && s.window.runctl = 0
  | _ => false

end Sys2Proof.Machine
end

