-- ==== Sys2Proof/Certificates/Slice0/Obligations.lean ====
section
/-! DEFINITION. The statements about the part, from the numbered rules of the manual. -/

section Statements

open Sys2Proof Sys2Proof.Machine

/-! ## The queue and the clock -/

/-- The step: the command at the front of the queue is run on the state with the queue's rest. -/
def Obligations.StepRunsFrontCommand : Prop :=
  ∀ (c : Instr) (rest : List Instr) (s : State), s.pending = c :: rest → step s = exec c (s.setPending rest)

/-- The model's choice (assumption log 1): with no command waiting a microsecond passes, nothing else changes, and the queue takes
the command of each timer whose deadline has come (R3). The statement names the periodic timers. -/
def Obligations.EmptyQueueTicks : Prop :=
  ∀ s : State, s.pending = [] → ∃ t, step s = .next t ∧ t = { s with us := s.us + 1, pending := t.pending } ∧
    (Instr.governorFrame ∈ t.pending ↔ s.timers.governor = some (s.us + 1)) ∧
    (Instr.dcLinkFrame ∈ t.pending ↔ s.timers.dcLink = some (s.us + 1)) ∧
    (Instr.thermalFrame ∈ t.pending ↔ s.timers.thermal = some (s.us + 1)) ∧
    (Instr.steeringFrame ∈ t.pending ↔ s.timers.steering = some (s.us + 1)) ∧
    (Instr.strobe ∈ t.pending ↔ s.timers.strobe = some (s.us + 1)) ∧
    (Instr.slatePickUp ∈ t.pending ↔ s.timers.pickUp = some (s.us + 1)) ∧
    (Instr.boardSweep ∈ t.pending ↔ s.timers.sweep = some (s.us + 1)) ∧
    (Instr.fallbackDecayStep ∈ t.pending ↔ s.timers.decay = some (s.us + 1))

/-- Every command, of every state, answers a next state with the same queue and the same microsecond count but for a power-on
reset, which begins the count anew. That no command takes time (assumption log 1), that a command whose event cannot occur still
answers (log 3) and that a power-on keeps the queue (log 13) are the model's choices; R1 and R22 give the clock and "taken
whole". -/
def Obligations.CommandsKeepQueueAndClock : Prop :=
  ∀ (c : Instr) (s : State), ∃ t, exec c s = .next t ∧ t.pending = s.pending ∧
    t.us = (if c = .powerOnReset then 0 else s.us)

/-! ## The register window (R184 to R187) -/

/-- R184, R185: what a read of each offset of the register window returns, and that bits 6 to 15 of ATTN and ATTNEN read 0. R184,
R186: every ignored write of the register window changes nothing: IDENT0, IDENT1, the offsets without a register, RUNCTL with
another value than 1, and RUNCTL with 1 while it does not read 0. -/
def Obligations.RegisterWindow : Prop :=
  (∀ s : State, s.readRegister 0 = 0x5644 ∧ s.readRegister 1 = 0x0701 ∧ s.readRegister 2 = s.window.runctl ∧
    (∀ k, k < 6 → (s.readRegister 3).getLsbD k = s.window.attn.getLsbD k ∧
      (s.readRegister 4).getLsbD k = s.window.attnen.getLsbD k) ∧
    (∀ k, 6 ≤ k → (s.readRegister 3).getLsbD k = false ∧ (s.readRegister 4).getLsbD k = false) ∧
    s.readRegister 5 = 0 ∧ s.readRegister 6 = 0 ∧ s.readRegister 7 = 0) ∧
  ((∀ (offset : BitVec 3) (value : Word) (s : State),
    offset ≠ 3 → offset ≠ 4 → (offset = 2 → value ≠ 1 ∨ s.window.runctl ≠ 0) →
    exec (.registerWriteIgnored offset value) s = .next s) ∧
  (∀ (value : Word) (s : State), ∃ t, exec (.registerWriteIgnored 3 value) s = .next t ∧ exec (.attnWrite value) s = .next t) ∧
  (∀ (value : Word) (s : State), ∃ t, exec (.registerWriteIgnored 4 value) s = .next t ∧
    exec (.attnenWrite value) s = .next t) ∧
  (∀ s : State, s.window.runctl = 0 → ∃ t, exec (.registerWriteIgnored 2 1) s = .next t ∧ exec .softRestart s = .next t) ∧
  ∀ s : State, s.window.runctl ≠ 0 → exec .softRestart s = .next s)

/-- R184, R187: a one written to ATTN clears that cause and no other, nothing else of the part changes, and the line is high
afterwards exactly while a cause that the write left set is enabled. R185, R187: a write to ATTNEN replaces the six enables,
leaves the causes, and raises the line at once where it enables a cause that is set. -/
def Obligations.AttentionWrites : Prop :=
  (∀ (value : Word) (s : State), ∃ t, exec (.attnWrite value) s = .next t ∧
    t = { s with window := { s.window with attn := t.window.attn } } ∧
    (∀ k, t.window.attn.getLsbD k = (s.window.attn.getLsbD k && !value.getLsbD k)) ∧
    (t.window.attnLine = true ↔
      ∃ k, k < 6 ∧ s.window.attn.getLsbD k = true ∧ value.getLsbD k = false ∧ s.window.attnen.getLsbD k = true)) ∧
  (∀ (value : Word) (s : State), ∃ t, exec (.attnenWrite value) s = .next t ∧
    t = { s with window := { s.window with attnen := t.window.attnen } } ∧
    (∀ k, k < 6 → t.window.attnen.getLsbD k = value.getLsbD k) ∧
    (∀ k, 6 ≤ k → t.window.attnen.getLsbD k = false) ∧
    (t.window.attnLine = true ↔ ∃ k, k < 6 ∧ s.window.attn.getLsbD k = true ∧ value.getLsbD k = true))

/-! ## The resets (R5, R186) -/

/-- R5, R184, R185, R186, R188, R190, R194: a power-on reset leaves the reset state, whatever stood before: UNCONFIGURED at time 0
with no trip cause and no settings, both wheel commands 0, every RAM word 0 but the Code word of each fault record, an empty
window, slate, board and Fault Table. The queue and the free-value counter are the model's own (assumption log 13). -/
def Obligations.PowerOnResetLeavesResetState : Prop :=
  ∀ s : State, ∃ t, exec .powerOnReset s = .next t ∧
    t = { State.reset with pending := s.pending, freeCount := s.freeCount } ∧
    t.drive.mode = .unconfigured ∧ t.drive.since = 0 ∧ t.drive.tripCause = none ∧ t.drive.qL = 0 ∧ t.drive.qR = 0 ∧
    t.settings = none ∧ t.window = { runctl := 0, attn := 0, attnen := 0 } ∧
    t.exchange = { slate := Slate.zero, lastStamp := none, torn := 0 } ∧
    t.desk = { apply := none, start := none, tare := none } ∧
    (∀ c, t.fault c = { active := false, latched := false, count := 0, firstTime := 0, lastTime := 0, detail := 0 }) ∧
    (∀ r, t.row r = { active := false, value := 0, since := 0, changes := 0 }) ∧
    (∀ c : FaultCode, t.readWord (0x0300 + 8 * c.index) = BitVec.ofNat 16 c.number) ∧
    (∀ a : Nat, (∀ c : FaultCode, a ≠ 0x0300 + 8 * c.index) → t.readWord a = 0)

/-- R5, R21, R38, R44, R185, R186, R188: what a board reset, and a soft restart that starts, leave of the Drive Governor, the
Limit Table, the window, the slate and the board: Mode DISARMED where settings are active and UNCONFIGURED otherwise, Since the
time of the reset, Trip Cause and the settings kept, both commands 0 with both torque records cleared, every row inactive with its
count kept, and no order held. That the five limits and their binding rows are 0 until the first governor frame is the model's
choice (assumption log 64: R44 gives the binding row of Ls only). RUNCTL reads 1 after the start of a soft restart and 0 after a
board reset. R146, R161, R163, R173, R181, R186, R194: what a board reset, and a soft restart that starts, keep and clear
elsewhere. Every fault record keeps Latched, Count and times and is not Active, but for FALLBACK LATCHED under a kept Failure
Count of 8 or more. A soft restart keeps the Failure Count and asks for one HALT; that it asks for none while one is on the line
is the model's reading of R129 and R144 (assumption log 24). A board reset does neither. The orders that were TAKEN are completed
ABORTED with cause RESTART; the other slots keep every word. R45, R47: of the Grid Manager a bank in TRIPPED or LOCKED OUT keeps
its Stage and any other is OFFLINE, θ, Model Running, the Trip History, Last Trip Cause, Circuit State and Air Over are kept, and
the duties, powers, derates, blowers, D, P_avail, V, the overvoltage state and the sums are cleared; its frame timers start anew
in a configured part and are stopped otherwise. R86: the Steering Servo is in NORMAL where settings are active and in OFF
otherwise, with no Fail Cause, its demand HELD at 0, its stamps empty, both ratios 1000 and its timer stopped. R107: the Load
Monitor keeps Tare and Tare Set, and its other fields and both motor records are cleared. -/
def Obligations.RestartsOfThePart : Prop :=
  (∀ (k : ResetKind) (s : State), (k = .soft → s.window.runctl = 0) → ∃ t, exec (restartCommand k) s = .next t ∧
    t.settings = s.settings ∧ t.us = s.us ∧
    t.drive = { State.reset.drive with
      mode := if s.settings.isSome then .disarmed else .unconfigured, since := s.now, tripCause := s.drive.tripCause,
      pageStamp := s.drive.pageStamp } ∧
    (∀ r, t.row r = { active := false, value := 0, since := s.now, changes := (s.row r).changes }) ∧
    t.link.outgoing = Outgoing.initial ∧
    t.window.runctl = (if k = .soft then 1 else 0) ∧ t.window.attnen = 0 ∧ t.window.attnLine = false ∧
    t.exchange = { slate := Slate.zero, lastStamp := none, torn := 0 } ∧
    t.desk = { apply := none, start := none, tare := none } ∧
    t.timers.pickUp = some (s.us + 1000) ∧ t.timers.sweep = some (s.us + 1000)) ∧
  (∀ (k : ResetKind) (s : State), (k = .soft → s.window.runctl = 0) → ∃ t, exec (restartCommand k) s = .next t ∧
    (∀ c, c ≠ .fallbackLatched → t.fault c = { s.fault c with active := false }) ∧
    t.supervision.failureCount = (if k = .soft then s.supervision.failureCount else 0) ∧
    ((t.fault .fallbackLatched).active = true ↔ 8 ≤ t.supervision.failureCount) ∧
    t.supervision.goodCount = 0 ∧ t.supervision.windowStart = s.now ∧ t.supervision.running = s.settings.isSome ∧
    t.link.haltPending = (decide (k = .soft) && !s.link.halting) ∧ t.link.exchange = none ∧
    (∀ n, t.station n = Station.initial) ∧ t.speed = Speed.initial ∧ t.scan = Scan.initial ∧ t.trace = Trace.initial ∧
    t.selfLoad.phase = .idle ∧
    (∀ o, s.desk.apply = some o ∨ s.desk.start = some o ∨ s.desk.tare = some o →
      t.readWord (slotBase o.slot) = 3 ∧ t.readWord (slotBase o.slot + 9) = 8 ∧ t.readWord (slotBase o.slot + 10) = 1) ∧
    (∀ slot a, (∀ o, s.desk.apply = some o ∨ s.desk.start = some o ∨ s.desk.tare = some o → o.slot ≠ slot) →
      slotBase slot ≤ a → a < slotBase slot + 16 → t.readWord a = s.readWord a)) ∧
  (∀ (k : ResetKind) (s : State), (k = .soft → s.window.runctl = 0) → ∃ t, exec (restartCommand k) s = .next t ∧
    (∀ b : BankId,
      (t.bank b).stage = (match (s.bank b).stage with
        | .tripped => .tripped
        | .lockedOut => .lockedOut
        | .ready | .derated | .offline => .offline) ∧
      (t.bank b).theta = (s.bank b).theta ∧ (t.bank b).modelRunning = (s.bank b).modelRunning ∧
      (t.bank b).tripHistory = (s.bank b).tripHistory ∧ (t.bank b).lastTripCause = (s.bank b).lastTripCause ∧
      (t.bank b).circuitFailed = (s.bank b).circuitFailed ∧ (t.bank b).airOver = (s.bank b).airOver ∧
      (t.bank b).duty = 0 ∧ (t.bank b).meanDuty = 0 ∧ (t.bank b).meanPower = 0 ∧ (t.bank b).derate = 0 ∧
      (t.bank b).blowerDemand = false ∧ (t.bank b).blowerRunning = false) ∧
    t.grid.dutyTotal = 0 ∧ t.grid.pAvail = 0 ∧ t.grid.v = 0 ∧ t.grid.ovHigh = false ∧ t.grid.sums = GridSums.empty ∧
    t.timers.dcLink = (if s.settings.isSome then some (s.us + 500) else none) ∧
    t.timers.thermal = (if s.settings.isSome then some (s.us + 100000) else none) ∧
    t.steer.state = (if s.settings.isSome then .normal else .off) ∧ t.steer.failCause = none ∧ t.steer.source = .held ∧
    t.steer.sourceDemand = 0 ∧ t.steer.limitedDemand = 0 ∧ t.steer.flow = 0 ∧ t.steer.measured = 0 ∧ t.steer.maxAngle = 0 ∧
    t.steer.step = 0 ∧ t.steer.reserveStrokes = 0 ∧ t.steer.curveAngle = 0 ∧ t.steer.fraction = 0 ∧
    t.steer.trackSince = none ∧ t.steer.lowSince = none ∧ t.steer.recoverSince = none ∧ t.steer.supplyLow = false ∧
    t.steer.kL = 1000 ∧ t.steer.kR = 1000 ∧ t.steer.first = true ∧ t.timers.steering = none ∧
    t.load.tare = s.load.tare ∧ t.load.tareSet = s.load.tareSet ∧ t.load.cycle = .empty ∧ t.load.sprungMass = 0 ∧
    t.load.livePayload = 0 ∧ t.load.emptyConfirmed = false ∧ t.load.weighBuffer = [] ∧ t.load.band = none ∧
    t.load.moveSince = none ∧ t.load.latchedPayload = 0 ∧ t.load.latchedUnweighed = false ∧ t.load.loadClass = .normal ∧
    t.load.cycleCount = 0 ∧ t.load.tareProgress = none ∧ t.load.acting = s.settings.isSome ∧
    ∀ w, t.motor w = { budget := 0, held := false, lastReply := none, winding := none, propelCap := 1000, retardCap := 1000 })

/-! ## The Demand Slate (R188) -/

/-- R188: a pick-up that finds its two stamps unequal counts one torn slate and changes nothing else; one that finds the last
accepted stamp again changes nothing. The pick-up timer goes on in both. R188, R17: a pick-up that finds a new stamp twice accepts
the slate: every field clamped into its range, the stamp kept, and row 2 written from it but in FALLBACK and UNCONFIGURED, judged
on the Mode before the pick-up, whether or not the Heartbeat is new; no row but 2 and 7 changes. With the Heartbeat as before,
nothing else changes but the pick-up timer, which goes on. -/
def Obligations.PickUpOfSlate : Prop :=
  (∀ s : State,
    (s.readWord 0 ≠ s.readWord 10 → exec .slatePickUp s = .next { s with
      timers := { s.timers with pickUp := s.timers.pickUp.map (fun _ => s.us + 1000) }
      exchange := { s.exchange with
        torn := if 65535 < s.exchange.torn + 1 then 65535 else s.exchange.torn + 1 } }) ∧
    (s.readWord 0 = s.readWord 10 → s.exchange.lastStamp = some (s.readWord 0) → exec .slatePickUp s = .next { s with
      timers := { s.timers with pickUp := s.timers.pickUp.map (fun _ => s.us + 1000) } })) ∧
  (∀ s : State, s.readWord 0 = s.readWord 10 → s.exchange.lastStamp ≠ some (s.readWord 0) →
    ∃ t, exec .slatePickUp s = .next t ∧ t.exchange.lastStamp = some (s.readWord 0) ∧ t.exchange.torn = s.exchange.torn ∧
      t.exchange.slate.heartbeat = (s.readWord 1).toNat ∧
      t.exchange.slate.direction =
        (if s.readWord 2 = 1 then .forward else if s.readWord 2 = 2 then .reverse else .neutral) ∧
      t.exchange.slate.propel = min 1000 ((s.readWord 3).toNat : Int) ∧
      t.exchange.slate.retard = min 1000 ((s.readWord 4).toNat : Int) ∧
      t.exchange.slate.speedHold = min 900 ((s.readWord 5).toNat : Int) ∧
      t.exchange.slate.zoneSpeed = min 900 ((s.readWord 6).toNat : Int) ∧
      t.exchange.slate.grade = max (-300) (min 300 (s.readWord 7).toInt) ∧
      (∀ lock : Int, lock = s.active.steer.maxLock → 0 ≤ lock →
        t.exchange.slate.steering = max (-lock) (min lock (s.readWord 8).toInt)) ∧
      t.exchange.slate.parkApplied = (s.readWord 9).getLsbD 0 ∧ t.exchange.slate.bodyRaised = (s.readWord 9).getLsbD 1 ∧
      (s.drive.mode = .fallback ∨ s.drive.mode = .unconfigured → t.row .zoneSpeed = s.row .zoneSpeed) ∧
      (s.drive.mode ≠ .fallback → s.drive.mode ≠ .unconfigured →
        ((t.row .zoneSpeed).active = true ↔ s.readWord 6 ≠ 0) ∧
        (s.readWord 6 ≠ 0 → (t.row .zoneSpeed).value = min 900 ((s.readWord 6).toNat : Int)) ∧
        (s.readWord 6 = 0 → (t.row .zoneSpeed).value = (s.row .zoneSpeed).value)) ∧
      (∀ r, r ≠ .zoneSpeed → r ≠ .fallbackSpeed → t.row r = s.row r) ∧
      ((s.readWord 1).toNat = s.exchange.slate.heartbeat →
        t = { s with
          exchange := t.exchange, rows := t.rows
          timers := { s.timers with pickUp := s.timers.pickUp.map (fun _ => s.us + 1000) } } ∧
        t.row .fallbackSpeed = s.row .fallbackSpeed))

/-! ## The Order Board (R189, R190) -/

/-- R189: a sweep that finds one POSTED slot deals with the order in it as that order's own command does, UNKNOWN ORDER where its
kind is not of the table; with no POSTED slot nothing but the sweep timer changes. R189: a sweep lists every POSTED slot once, in
stamp order with equal stamps by slot index where every listed stamp lies within 32767 after one of them, and in slot order where
none has that; it takes the listed slots one after another. R189, R190: at its turn a slot that is no longer POSTED is left alone,
and so is one whose order is TAKEN, where a POSTED is lost; that it is listed and holds back no other slot is the model's reading
(assumption log 59). A kind outside the table completes UNKNOWN ORDER; an order whose owner holds one, whose owner was left an
earlier slot of the sweep, or a START SELF-LOAD behind an APPLY SETTINGS outside FALLBACK, is left POSTED, and its owner is
remembered; any other is dealt with as its own command does. -/
def Obligations.SweepOfOneSlot : Prop :=
  (∀ (s : State) (slot : Fin 16),
    ((∀ x : Fin 16, s.readWord (slotBase x) ≠ 1) → exec .boardSweep s = .next (sweepRestarted s)) ∧
    ((∀ x : Fin 16, s.readWord (slotBase x) = 1 ↔ x = slot) →
      (∀ k : OrderKind, posted s slot k.code →
        ∃ t, exec .boardSweep s = .next t ∧ exec (orderCommand k slot) (sweepRestarted s) = .next t) ∧
      (slotTaken s slot → exec .boardSweep s = .next (sweepRestarted s)) ∧
      (¬ slotTaken s slot → s.readWord (slotBase slot + 2) = 0 ∨ 9 < (s.readWord (slotBase slot + 2)).toNat →
        ∃ t, exec .boardSweep s = .next t ∧ onlyCompletes (sweepRestarted s) t slot 1 0 0 0 0))) ∧
  (∀ s : State,
    (∀ slot : Fin 16, slot ∈ s.sweepOrder ↔ s.readWord (slotBase slot) = 1) ∧ s.sweepOrder.Nodup ∧
    (∀ a : Fin 16, stampsFollow s a → s.sweepOrder.Pairwise (fun x y =>
      stampDistance (s.postStamp a) (s.postStamp x) < stampDistance (s.postStamp a) (s.postStamp y) ∨
        (s.postStamp x = s.postStamp y ∧ x < y))) ∧
    ((∀ a : Fin 16, ¬ stampsFollow s a) → s.sweepOrder.Pairwise (fun x y => x < y)) ∧
    exec .boardSweep s = .next (s.sweepOrder.foldl sweepSlot (sweepRestarted s, [])).1) ∧
  (∀ (s : State) (left : List Owner) (slot : Fin 16),
    (s.readWord (slotBase slot) ≠ 1 ∨ slotTaken s slot → sweepSlot (s, left) slot = (s, left)) ∧
    (s.readWord (slotBase slot) = 1 → ¬ slotTaken s slot →
      s.readWord (slotBase slot + 2) = 0 ∨ 9 < (s.readWord (slotBase slot + 2)).toNat →
      (sweepSlot (s, left) slot).2 = left ∧ onlyCompletes s (sweepSlot (s, left) slot).1 slot 1 0 0 0 0) ∧
    (∀ k : OrderKind, posted s slot k.code →
      (ownerHolds s k ∨ k.owner ∈ left ∨ (k = .startSelfLoad ∧ s.desk.apply.isSome = true ∧ s.drive.mode ≠ .fallback) →
        sweepSlot (s, left) slot = (s, k.owner :: left)) ∧
      (¬ (ownerHolds s k ∨ k.owner ∈ left ∨ (k = .startSelfLoad ∧ s.desk.apply.isSome = true ∧ s.drive.mode ≠ .fallback)) →
        (sweepSlot (s, left) slot).2 = left ∧ exec (orderCommand k slot) s = .next (sweepSlot (s, left) slot).1)))

/-- R189: an order that is not POSTED in the slot, or is POSTED over one that is TAKEN there (R190), an order whose owner still
holds an order, or a START SELF-LOAD behind an APPLY SETTINGS outside FALLBACK, is left as it is. -/
def Obligations.OrdersLeftAlone : Prop :=
  ∀ (k : OrderKind) (slot : Fin 16) (s : State),
    ¬ posted s slot k.code ∨ ownerHolds s k ∨
      (k = .startSelfLoad ∧ s.desk.apply.isSome = true ∧ s.drive.mode ≠ .fallback) →
    exec (orderCommand k slot) s = .next s

/-- R14, R6 to R8, R10, R13, R170: an order taken in a mode that does not permit it completes WRONG MODE and does nothing else. -/
def Obligations.OrdersRefusedInWrongMode : Prop :=
  ∀ (k : OrderKind) (slot : Fin 16) (s : State), posted s slot k.code → ¬ ownerHolds s k →
    ¬ (k = .startSelfLoad ∧ s.desk.apply.isSome = true ∧ s.drive.mode ≠ .fallback) →
    permittedIn k s.drive.mode = false →
    ∃ t, exec (orderCommand k slot) s = .next t ∧ onlyCompletes s t slot 2 0 0 0 0

/-- R7: ARM DRIVE taken in DISARMED with its nine conditions met: DONE, Mode ARMED, Since now, MODE and ORDER DONE set, the frame
state at the entry values of R37, and nothing else changed. R7: ARM DRIVE taken in DISARMED with a condition not met: NOT READY
with bit k of Result Detail 0 set exactly for each unmet condition k, and nothing else changed. -/
def Obligations.ArmDrive : Prop :=
  (∀ (slot : Fin 16) (s : State), posted s slot 2 → s.drive.mode = .disarmed → (∀ k, k < 9 → armConditionHolds s k) →
    ∃ t, exec (.armDrive slot) s = .next t ∧
      t = { s with
        ram := t.ram, window := (s.window.raise .mode).raise .orderDone
        drive := { s.drive with
          mode := .armed, since := s.now, integrator := 0, corrL := 1000, corrR := 1000, qL := 0, qR := 0, gate := false } } ∧
      slotShows t slot 0 0 0 0 0 s.now ∧ keepsWords s t (slotWord slot)) ∧
  (∀ (slot : Fin 16) (s : State), posted s slot 2 → s.drive.mode = .disarmed → ¬ (∀ k, k < 9 → armConditionHolds s k) →
    ∃ t, exec (.armDrive slot) s = .next t ∧ onlyCompletes s t slot 7 (t.readWord (slotBase slot + 10)) 0 0 0 ∧
      ∀ k, (t.readWord (slotBase slot + 10)).getLsbD k = true ↔ k < 9 ∧ ¬ armConditionHolds s k)

/-- R8, R37, R169: DISARM DRIVE. While v is 5 or more in ARMED or FALLBACK: MOVING. Below that: DONE and Mode DISARMED, both
commands and both torque records 0 at once; from FALLBACK row 7 goes inactive with its Value kept and the decay timer stops. In
DISARMED: DONE and no change. -/
def Obligations.DisarmDrive : Prop :=
  ∀ (slot : Fin 16) (s : State), posted s slot 3 →
    (s.drive.mode.drives = true → 5 ≤ s.speed.v →
      ∃ t, exec (.disarmDrive slot) s = .next t ∧ onlyCompletes s t slot 4 0 0 0 0) ∧
    (s.drive.mode = .disarmed → ∃ t, exec (.disarmDrive slot) s = .next t ∧ onlyCompletes s t slot 0 0 0 0 0) ∧
    (s.drive.mode.drives = true → s.speed.v < 5 →
      ∃ t, exec (.disarmDrive slot) s = .next t ∧
        t = { s with
          ram := t.ram, window := (s.window.raise .mode).raise .orderDone, rows := t.rows, timers := t.timers
          supervision := t.supervision, published := t.published
          drive := { s.drive with
            mode := .disarmed, since := s.now, integrator := 0, corrL := 1000, corrR := 1000, qL := 0, qR := 0, gate := false }
          link := { s.link with outgoing := { s.link.outgoing with
            left := { torque := 0, enable := false, reverse := decide (s.drive.travel = .reverse) }
            right := { torque := 0, enable := false, reverse := decide (s.drive.travel = .reverse) } } } } ∧
        (∀ r, r ≠ .zoneSpeed → r ≠ .fallbackSpeed → t.row r = s.row r) ∧
        (s.drive.mode = .armed →
          t.rows = s.rows ∧ t.timers = s.timers ∧ t.supervision = s.supervision ∧ t.published = s.published) ∧
        (s.drive.mode = .fallback →
          (t.row .fallbackSpeed).active = false ∧ (t.row .fallbackSpeed).value = (s.row .fallbackSpeed).value ∧
          ((t.row .zoneSpeed).active = true ↔ s.exchange.slate.zoneSpeed ≠ 0) ∧
          t.supervision = { s.supervision with decayRunning := false } ∧ t.timers = { s.timers with decay := none }) ∧
        slotShows t slot 0 0 0 0 0 s.now ∧ keepsWords s t (slotWord slot))

/-- R170, R10, R39, R169: CLEAR FALLBACK in FALLBACK: LOCKED with the Failure Count at 8 or more, then NOT READY with the Good
Count below 3, and otherwise DONE: Failure Count 0, Mode ARMED with the propel gate set and the frame state kept, row 7 inactive
with its Value kept, the decay stopped, and the window and the Good Count left alone. -/
def Obligations.ClearFallback : Prop :=
  ∀ (slot : Fin 16) (s : State), posted s slot 4 → s.drive.mode = .fallback →
    (8 ≤ s.supervision.failureCount →
      ∃ t, exec (.clearFallback slot) s = .next t ∧ onlyCompletes s t slot 6 (wordOf s.supervision.failureCount) 0 0 0) ∧
    (s.supervision.failureCount < 8 → s.supervision.goodCount < 3 →
      ∃ t, exec (.clearFallback slot) s = .next t ∧ onlyCompletes s t slot 7 1 (wordOf s.supervision.goodCount) 0 0) ∧
    (s.supervision.failureCount < 8 → 3 ≤ s.supervision.goodCount → (s.fault .fallbackLatched).active = false →
      ∃ t, exec (.clearFallback slot) s = .next t ∧
        t = { s with
          ram := t.ram, window := (s.window.raise .orderDone).raise .mode, rows := t.rows
          timers := { s.timers with decay := none }, published := t.published
          drive := { s.drive with mode := .armed, since := s.now, gate := true }
          supervision := { s.supervision with failureCount := 0, decayRunning := false } } ∧
        (t.row .fallbackSpeed).active = false ∧ (t.row .fallbackSpeed).value = (s.row .fallbackSpeed).value ∧
        ((t.row .zoneSpeed).active = true ↔ s.exchange.slate.zoneSpeed ≠ 0) ∧
        (∀ r, r ≠ .zoneSpeed → r ≠ .fallbackSpeed → t.row r = s.row r) ∧
        slotShows t slot 0 0 0 0 0 s.now ∧ keepsWords s t (slotWord slot))

/-- R195: CLEAR FAULT with a named code. Out of 1 to 43 and not 0xFF: BAD ARGUMENT 0. Active: CAUSE ACTIVE with the code. Not
Active: Latched is cleared and the order completes DONE; for a code whose clearing no owner acts on, outside TRIPPED, nothing else
changes. R195: CLEAR FAULT with ALL: every record that is not Active loses Latched, every Active one stays as it is, and the order
completes DONE with the number of records still Active in Result Detail 0. -/
def Obligations.ClearFaultOrder : Prop :=
  (∀ (slot : Fin 16) (s : State), posted s slot 5 →
    (s.readWord (slotBase slot + 3) = 0 ∨
        (43 < (s.readWord (slotBase slot + 3)).toNat ∧ s.readWord (slotBase slot + 3) ≠ 0xFF) →
      ∃ t, exec (.clearFault slot) s = .next t ∧ onlyCompletes s t slot 3 0 0 0 0) ∧
    (∀ c : FaultCode, (s.readWord (slotBase slot + 3)).toNat = c.number →
      ((s.fault c).active = true →
        ∃ t, exec (.clearFault slot) s = .next t ∧ onlyCompletes s t slot 9 (BitVec.ofNat 16 c.number) 0 0 0) ∧
      ((s.fault c).active = false →
        ∃ t, exec (.clearFault slot) s = .next t ∧ slotShows t slot 0 0 0 0 0 s.now ∧
          (∀ d, t.fault d = if d = c then { s.fault c with latched := false } else s.fault d) ∧
          keepsWords s t (fun a => slotWord slot a ∨ faultWord c a) ∧
          (s.drive.mode ≠ .tripped → clearingActs s c = false →
            t = { s with ram := t.ram, faults := t.faults, window := s.window.raise .orderDone })))) ∧
  (∀ (slot : Fin 16) (s : State), posted s slot 5 → s.readWord (slotBase slot + 3) = 0xFF →
    ∃ t, exec (.clearFault slot) s = .next t ∧
      slotShows t slot 0 (BitVec.ofNat 16 (FaultCode.all.filter (fun c => (s.fault c).active)).length)
        (t.readWord (slotBase slot + 11)) (t.readWord (slotBase slot + 12)) (t.readWord (slotBase slot + 13)) s.now ∧
      (∀ k, k < 6 → (t.readWord (slotBase slot + 11 + k / 2)).toNat / 256 ^ (k % 2) % 256 =
        (((FaultCode.all.filter (fun c => (s.fault c).active)).map FaultCode.number).getD k 0)) ∧
      (∀ c, t.fault c = if (s.fault c).active then s.fault c else { s.fault c with latched := false }) ∧
      keepsWords s t (fun a => slotWord slot a ∨ ∃ c, faultWord c a))

/-- R195, R12, R57, R68, R100, R142: what the owners do when a CLEAR FAULT clears their code. BANK x CIRCUIT clears the bank's
failed circuit; DC LINK OVERVOLTAGE makes row 17 inactive outside HIGH; LINK ECHO enables the transmitter, which the Link Master
publishes as a change only (R148); and TRIPPED is left for DISARMED when the clearing of a Latched trip cause leaves none Latched,
and only then. R195, R12: ALL tells them of every code whose record is not Active, and in TRIPPED leaves it for DISARMED exactly
where a Latched trip cause was cleared and none stays Latched. -/
def Obligations.ClearFaultTellsOwners : Prop :=
  (∀ (slot : Fin 16) (s : State) (c : FaultCode), posted s slot 5 → (s.readWord (slotBase slot + 3)).toNat = c.number →
    (s.fault c).active = false → ∃ t, exec (.clearFault slot) s = .next t ∧
      (c = .bankACircuit → t.grid.bankA.circuitFailed = false) ∧ (c = .bankBCircuit → t.grid.bankB.circuitFailed = false) ∧
      (c = .dcLinkOvervoltage → s.grid.ovHigh = false → s.drive.mode ≠ .unconfigured →
        (t.row .linkOvervoltageRetard).active = false) ∧
      (c = .linkEcho → t.link.enabled = true ∧
        (s.link.enabled = true → t.published.link = s.published.link) ∧
        (s.link.enabled = false → t.published.link = { s.link with enabled := true })) ∧
      (s.steer.state = .failed → s.steer.failCause = some c → s.failureCondition = none →
        t.steer.state = (if s.steer.supplyLow then .reserve else .normal) ∧ t.steer.failCause = none ∧
        t.steer.target = s.steer.measured) ∧
      (s.drive.mode = .tripped →
        (t.drive.mode = .disarmed ↔ c.isTripCause = true ∧ (s.fault c).latched = true ∧
          ∀ d : FaultCode, d.isTripCause = true → d ≠ c → (s.fault d).latched = false)) ∧
      (s.drive.mode ≠ .tripped → t.drive.mode = s.drive.mode)) ∧
  (∀ (slot : Fin 16) (s : State), posted s slot 5 → s.readWord (slotBase slot + 3) = 0xFF →
    ∃ t, exec (.clearFault slot) s = .next t ∧
      ((s.fault .bankACircuit).active = false → t.grid.bankA.circuitFailed = false) ∧
      ((s.fault .bankBCircuit).active = false → t.grid.bankB.circuitFailed = false) ∧
      ((s.fault .dcLinkOvervoltage).active = false → s.grid.ovHigh = false → s.drive.mode ≠ .unconfigured →
        (t.row .linkOvervoltageRetard).active = false) ∧
      ((s.fault .linkEcho).active = false → t.link.enabled = true) ∧
      (s.link.enabled = true → t.published.link = s.published.link) ∧
      (∀ c, s.steer.state = .failed → s.steer.failCause = some c → (s.fault c).active = false → s.failureCondition = none →
        t.steer.state = (if s.steer.supplyLow then .reserve else .normal) ∧ t.steer.failCause = none ∧
        t.steer.target = s.steer.measured) ∧
      (s.drive.mode = .tripped →
        (t.drive.mode = .disarmed ↔
          (∃ c : FaultCode, c.isTripCause = true ∧ (s.fault c).active = false ∧ (s.fault c).latched = true) ∧
          ∀ c : FaultCode, c.isTripCause = true → (s.fault c).active = true → (s.fault c).latched = false) ∧
        (t.drive.mode ≠ .disarmed → t.drive.mode = .tripped)) ∧
      (s.drive.mode ≠ .tripped → t.drive.mode = s.drive.mode))

/-- R51: RESET LOCKOUT. A bank argument above 1: BAD ARGUMENT 0. A bank not LOCKED OUT: DONE and no change. LOCKED OUT with a
cause still present: CAUSE ACTIVE. LOCKED OUT without one: the Trip History and Last Trip Cause are cleared, the bank is settled
by R48 to READY, DERATED or OFFLINE, and its two faults are reported absent. -/
def Obligations.ResetLockout : Prop :=
  ∀ (slot : Fin 16) (s : State), posted s slot 6 → s.drive.mode ≠ .fallback →
    (1 < (s.readWord (slotBase slot + 3)).toNat →
      ∃ t, exec (.resetLockout slot) s = .next t ∧ onlyCompletes s t slot 3 0 0 0 0) ∧
    ∀ k : BankId, s.readWord (slotBase slot + 3) = (if k = .a then 0 else 1) →
      ((s.bank k).stage ≠ .lockedOut → ∃ t, exec (.resetLockout slot) s = .next t ∧ onlyCompletes s t slot 0 0 0 0 0) ∧
      ((s.bank k).stage = .lockedOut →
        (s.bankSettings k).restartTheta < (s.bank k).theta ∨ (s.bank k).airOver = true ∨ (s.bank k).circuitFailed = true ∨
          s.bankFaultFlag k = true →
        ∃ t, exec (.resetLockout slot) s = .next t ∧
          onlyCompletes s t slot 9 (t.readWord (slotBase slot + 10)) 0 0 0) ∧
      ((s.bank k).stage = .lockedOut →
        ¬ ((s.bankSettings k).restartTheta < (s.bank k).theta ∨ (s.bank k).airOver = true ∨
          (s.bank k).circuitFailed = true ∨ s.bankFaultFlag k = true) →
        ∃ t, exec (.resetLockout slot) s = .next t ∧ slotShows t slot 0 0 0 0 0 s.now ∧
          t = { s with ram := t.ram, faults := t.faults, grid := t.grid, window := s.window.raise .orderDone } ∧
          (t.bank k).tripHistory = [] ∧ (t.bank k).lastTripCause = none ∧
          ((s.bankSettings k).enabled = false ∨ (s.station .chopper).state ≠ .present ∨ s.chopperReply.ready = false →
            (t.bank k).stage = .offline) ∧
          ((s.bankSettings k).enabled = true → (s.station .chopper).state = .present → s.chopperReply.ready = true →
            (s.bank k).theta < (s.bankSettings k).warnTheta → (t.bank k).stage = .ready) ∧
          (t.fault k.tripCode).active = false ∧ (t.fault k.lockoutCode).active = false ∧
          (∀ c, c ≠ k.tripCode → c ≠ k.lockoutCode → t.fault c = s.fault c) ∧
          (∀ j, j ≠ k → t.bank j = s.bank j) ∧
          keepsWords s t (fun a => slotWord slot a ∨ faultWord k.tripCode a ∨ faultWord k.lockoutCode a))

/-- R174, R175, R13: START SELF-LOAD in DISARMED with every check of R174 passed: the order stays TAKEN, the pattern is taken, the
Step Result list is emptied and RUNNING, LEAD-IN starts (BODY with step 0 at once where Lead-in is 0), Mode becomes SELF-LOAD with
both commands 0 and both torque records cleared, and nothing outside these changes. R174: the refusals of START SELF-LOAD in
DISARMED, the first failing check giving the result: BAD ARGUMENT with the index of the first argument out of its range, or 3 for
a body too short, then MOVING, NOT PARKED, and NOT READY with a bit for each unmet condition of station 3 and the selected
banks. -/
def Obligations.StartSelfLoad : Prop :=
  (∀ (slot : Fin 16) (s : State), posted s slot 7 → s.desk.start = none → s.desk.apply = none → s.drive.mode = .disarmed →
    ∀ a : StartArguments, a = startArguments s slot → startArgumentsInRange a →
    s.speed.v < 5 → s.exchange.slate.parkApplied = true → (∀ k, k < 3 → startConditionHolds s a k) →
    ∃ t, exec (.startSelfLoad slot) s = .next t ∧
      t = { s with
        ram := t.ram, window := s.window.raise .mode, selfLoad := t.selfLoad
        published := { s.published with selfLoad := t.selfLoad, phaseTime := t.published.phaseTime }
        timers := { s.timers with
          phase := some (s.us + 1000 * (if a.leadIn = 0 then t.selfLoad.bodyLength else a.leadIn)), step := t.timers.step }
        link := { s.link with outgoing := { s.link.outgoing with
          left := { torque := 0, enable := false, reverse := decide (s.drive.travel = .reverse) }
          right := { torque := 0, enable := false, reverse := decide (s.drive.travel = .reverse) } } }
        desk := { s.desk with start := some { slot := slot, words := s.readWords (slotBase slot + 1) 8 } }
        grid := { s.grid with dutyTotal := 0 }
        drive := { s.drive with
          mode := .selfLoad, since := s.now, integrator := 0, corrL := 1000, corrR := 1000, qL := 0, qR := 0, gate := false } } ∧
      t.selfLoad.phase = (if a.leadIn = 0 then .body else .leadIn) ∧ t.selfLoad.phaseStart = s.now ∧
      t.selfLoad.bodyLength = a.totalDuration - a.leadIn - a.leadOut ∧ t.selfLoad.pattern = a.pattern ∧
      t.selfLoad.stepIndex = 0 ∧ t.selfLoad.stepsRun = (if a.leadIn = 0 then 1 else 0) ∧
      t.selfLoad.stepOpen = decide (a.leadIn = 0) ∧ t.selfLoad.givenA = 0 ∧ t.selfLoad.givenB = 0 ∧
      t.selfLoad.header =
        { testState := .running, abortCause := none, stepsRun := t.selfLoad.stepsRun, recorded := 0, unrecorded := 0 } ∧
      (a.leadIn = 0 → t.selfLoad.stepLevel = s.inForce.levels.getD 0 0 ∧ t.selfLoad.stepStart = s.now ∧
        t.selfLoad.sums = StepSums.empty ∧
        t.timers.step = (if a.pattern.isLastStep t.selfLoad.bodyLength 0 then none
          else some (s.us + 1000 * a.pattern.stepLength t.selfLoad.bodyLength 0))) ∧
      (a.leadIn ≠ 0 → t.timers.step = none) ∧
      t.readWord (slotBase slot) = 2 ∧ t.readWord 0x0600 = 1 ∧ t.readWord 0x0601 = 0 ∧
      t.readWord 0x0602 = BitVec.ofNat 16 t.selfLoad.stepsRun ∧ t.readWord 0x0603 = 0 ∧ t.readWord 0x0604 = 0 ∧
      keepsWords s t (fun w => w = slotBase slot ∨ (0x0600 ≤ w ∧ w < 0x0610))) ∧
  (∀ (slot : Fin 16) (s : State), posted s slot 7 → s.desk.start = none → s.desk.apply = none → s.drive.mode = .disarmed →
    ∀ a : StartArguments, a = startArguments s slot →
    (∀ k, k < 6 → startArgumentFails a k → (∀ j, j < k → ¬ startArgumentFails a j) →
      ∃ t, exec (.startSelfLoad slot) s = .next t ∧ onlyCompletes s t slot 3 (BitVec.ofNat 16 k) 0 0 0) ∧
    ((∀ k, k < 6 → ¬ startArgumentFails a k) → ¬ startArgumentsInRange a →
      ∃ t, exec (.startSelfLoad slot) s = .next t ∧ onlyCompletes s t slot 3 3 0 0 0) ∧
    (startArgumentsInRange a → 5 ≤ s.speed.v →
      ∃ t, exec (.startSelfLoad slot) s = .next t ∧ onlyCompletes s t slot 4 0 0 0 0) ∧
    (startArgumentsInRange a → s.speed.v < 5 → s.exchange.slate.parkApplied = false →
      ∃ t, exec (.startSelfLoad slot) s = .next t ∧ onlyCompletes s t slot 5 0 0 0 0) ∧
    (startArgumentsInRange a → s.speed.v < 5 → s.exchange.slate.parkApplied = true →
      ¬ (∀ k, k < 3 → startConditionHolds s a k) →
      ∃ t, exec (.startSelfLoad slot) s = .next t ∧ onlyCompletes s t slot 7 (t.readWord (slotBase slot + 10)) 0 0 0 ∧
        ∀ k, (t.readWord (slotBase slot + 10)).getLsbD k = true ↔ k < 3 ∧ ¬ startConditionHolds s a k))

/-- R182, R181, R13: STOP SELF-LOAD in SELF-LOAD aborts the test in progress with cause STOPPED: in BODY the step in progress is
closed as a PARTIAL record, and in LEAD-IN and LEAD-OUT no record is written; the generator is idle, the list ABORTED, station 3's
duties 0, Mode DISARMED, the START's slot ABORTED with its four detail words and the STOP's slot DONE, both with the same
Completion Time. In any other mode it completes WRONG MODE. It is not queued behind the START. -/
def Obligations.StopSelfLoad : Prop :=
  ∀ (slot : Fin 16) (s : State), posted s slot 8 →
    (s.drive.mode ≠ .selfLoad → ∃ t, exec (.stopSelfLoad slot) s = .next t ∧ onlyCompletes s t slot 2 0 0 0 0) ∧
    (s.drive.mode = .selfLoad → s.selfLoad.phase ≠ .idle → ∀ o, s.desk.start = some o →
      ∃ t, exec (.stopSelfLoad slot) s = .next t ∧ testAborted s t .stopped ∧
        (s.selfLoad.phase ≠ .body → t.selfLoad.header.recorded = s.selfLoad.header.recorded ∧
          ∀ a, 0x0610 ≤ a → resultWord a → t.readWord a = s.readWord a) ∧
        t.desk = { s.desk with start := none } ∧
        t.timers = { s.timers with phase := none, step := none } ∧
        t.link.outgoing.chopper = { s.link.outgoing.chopper with dutyA := 0, dutyB := 0 } ∧
        t.readWord 0x0600 = 3 ∧ t.readWord 0x0601 = 2 ∧
        slotShows t slot 0 0 0 0 0 s.now ∧
        slotShows t o.slot 8 2 (BitVec.ofNat 16 s.selfLoad.phase.code)
          (if s.selfLoad.phase = .body then wordOf s.selfLoad.stepIndex else 0) (wordOf s.selfLoad.stepsRun) s.now ∧
        t.window = (((s.window.raise .orderDone).raise .mode).raise .orderDone) ∧
        t.faults = s.faults ∧ t.rows = s.rows ∧ t.grid = s.grid ∧ t.settings = s.settings ∧
        keepsWords s t (fun a => slotWord slot a ∨ slotWord o.slot a ∨ resultWord a))

/-- R109: TARE LOAD handed to the Load Monitor: the first check that fails gives the result, and an order that passes all stays
TAKEN with Tare Progress at no samples. -/
def Obligations.TareLoad : Prop :=
  ∀ (slot : Fin 16) (s : State), posted s slot 9 →
    (s.desk.tare.isSome = true → exec (.tareLoad slot) s = .next s) ∧
    (s.desk.tare = none → s.drive.mode = .fallback →
      ∃ t, exec (.tareLoad slot) s = .next t ∧ onlyCompletes s t slot 2 0 0 0 0) ∧
    (s.desk.tare = none → s.drive.mode ≠ .fallback →
    (s.load.cycle ≠ .empty ∨ s.exchange.slate.bodyRaised = true →
      ∃ t, exec (.tareLoad slot) s = .next t ∧ onlyCompletes s t slot 2 0 0 0 0) ∧
    (s.load.cycle = .empty → s.exchange.slate.bodyRaised = false → 5 ≤ s.speed.v →
      ∃ t, exec (.tareLoad slot) s = .next t ∧ onlyCompletes s t slot 4 0 0 0 0) ∧
    (s.load.cycle = .empty → s.exchange.slate.bodyRaised = false → s.speed.v < 5 →
      (s.fault .strutSensorInvalid).active = true ∨ s.drive.mode = .unconfigured →
      ∃ t, exec (.tareLoad slot) s = .next t ∧ onlyCompletes s t slot 7 (t.readWord (slotBase slot + 10)) 0 0 0 ∧
        ∀ k, (t.readWord (slotBase slot + 10)).getLsbD k = true ↔
          (k = 0 ∧ (s.fault .strutSensorInvalid).active = true) ∨ (k = 1 ∧ s.drive.mode = .unconfigured)) ∧
    (s.load.cycle = .empty → s.exchange.slate.bodyRaised = false → s.speed.v < 5 →
      (s.fault .strutSensorInvalid).active = false → s.drive.mode ≠ .unconfigured →
      ∃ t, exec (.tareLoad slot) s = .next t ∧
        t = { s with
          ram := t.ram, load := { s.load with tareProgress := some (0, 0) }
          desk := { s.desk with tare := some { slot := slot, words := s.readWords (slotBase slot + 1) 8 } } } ∧
        t.readWord (slotBase slot) = 2 ∧ keepsWords s t (fun a => a = slotBase slot)))

/-- R110, R108: the sixteenth good pass of a TARE LOAD: Tare is the floored mean of the sixteen sprung masses, Tare Set and Empty
Confirmed are set, and the order completes DONE with the new Tare and the one before. Without such a pass the command changes
nothing (assumption log 3). -/
def Obligations.TareLoadCompletion : Prop :=
  (∀ s : State, s.load.tareProgress.map (fun p => p.1) ≠ some 15 ∨ s.desk.tare = none →
    exec .tareLoadCompletion s = .next s) ∧
  ∀ s : State, ∀ o, s.desk.tare = some o → ∀ sum, s.load.tareProgress = some (15, sum) →
    s.load.acting = true → s.load.cycle = .empty → s.exchange.slate.bodyRaised = false → s.speed.v < 5 →
    (∀ r ∈ strutRoles, (s.sample r).state = .valid) →
    ∀ mass : Int, mass = ((s.sample .strutFL).value * s.active.load.areaFL + (s.sample .strutFR).value * s.active.load.areaFR +
      (s.sample .strutRL).value * s.active.load.areaRL + (s.sample .strutRR).value * s.active.load.areaRR) / 9810 →
    0 ≤ (sum + mass) / 16 → (sum + mass) / 16 ≤ 65535 →
    ∃ t, exec .tareLoadCompletion s = .next t ∧ t.load.tare = (sum + mass) / 16 ∧ t.load.tareSet = true ∧
      t.load.emptyConfirmed = true ∧ t.load.tareProgress = none ∧ t.desk = { s.desk with tare := none } ∧
      slotShows t o.slot 0 (wordOf ((sum + mass) / 16)) (wordOf s.load.tare) 0 0 s.now ∧
      t.drive = s.drive ∧ t.link = s.link ∧ t.scan = s.scan ∧ t.speed = s.speed ∧ t.supervision = s.supervision ∧
      t.selfLoad = s.selfLoad ∧ t.timers = s.timers ∧ t.exchange = s.exchange ∧ t.settings = s.settings ∧
      (∀ r, r ≠ .loadClassSpeed → r ≠ .loadClassPropel → t.row r = s.row r) ∧
      keepsWords s t (fun a => slotWord o.slot a ∨ ∃ c, faultWord c a)

/-- R191, R6: APPLY SETTINGS in UNCONFIGURED or DISARMED. A block that fails a check: BAD ARGUMENT with the offset of the first
failure and nothing applied, as for a Forward Speed Ceiling outside 50 to 650, offset 0. A block that passes becomes the active
settings; the order stays TAKEN, the Scan Unit starts its new list from entry 0, the Link Master drops its exchange, the steering
timer stops, the trace starts from Half A with its lost count kept (R197), and Mode and the settings the other blocks work with
stay. -/
def Obligations.ApplySettings : Prop :=
  ∀ (slot : Fin 16) (s : State), posted s slot 1 → s.desk.apply = none →
    s.drive.mode = .unconfigured ∨ s.drive.mode = .disarmed →
    (∀ offset, settingFailure s.settingBlock = some offset →
      ∃ t, exec (.applySettings slot) s = .next t ∧ onlyCompletes s t slot 3 (BitVec.ofNat 16 offset) 0 0 0) ∧
    ((s.readWord 0x0800).toNat < 50 ∨ 650 < (s.readWord 0x0800).toNat →
      ∃ t, exec (.applySettings slot) s = .next t ∧ onlyCompletes s t slot 3 0 0 0 0) ∧
    (settingFailure s.settingBlock = none →
      ∃ t, exec (.applySettings slot) s = .next t ∧ t.settings = some (readSettings s.settingBlock) ∧
        t.settled = s.settled ∧ t.drive = s.drive ∧ t.rows = s.rows ∧ t.grid = s.grid ∧ t.supervision = s.supervision ∧
        t.speed = s.speed ∧ t.exchange = s.exchange ∧ t.selfLoad = s.selfLoad ∧ t.window = s.window ∧
        t.desk = { s.desk with apply := some { slot := slot, words := s.readWords (slotBase slot + 1) 8 } } ∧
        t.scan.index = 0 ∧ t.scan.busy = false ∧
        t.timers.strobe = some (s.us + (readSettings s.settingBlock).scan.strobePeriod) ∧ t.timers.steering = none ∧
        t.link.exchange = none ∧ t.link.pollIndex = 0 ∧ t.steer.state = s.steer.state ∧ t.steer.awaitPass = true ∧
        t.trace = { Trace.initial with lost := s.trace.lost } ∧ (t.fault .traceOverrun).active = false ∧
        t.readWord (slotBase slot) = 2 ∧ keepsWords s t (fun a => a = slotBase slot ∨ ∃ c, faultWord c a))

/-- R191, R6, R22, R45, R56, R163: the first scan-pass event after the restarts: the order held completes DONE, the settings are
in force for every block, UNCONFIGURED becomes DISARMED, the governor frame timer starts anew with the Frame Period, the DC-link
and thermal frame timers and the supervision window start where they did not run, and every bank whose model does not run starts
it at the next thermal frame. With no APPLY SETTINGS held nothing happens, which is the model's choice (assumption log 3). -/
def Obligations.ApplySettingsCompletion : Prop :=
  (∀ s : State, s.desk.apply = none → exec .applySettingsCompletion s = .next s) ∧
  ∀ s : State, ∀ o, s.desk.apply = some o → ∀ c, s.settings = some c →
    ∃ t, exec .applySettingsCompletion s = .next t ∧ slotShows t o.slot 0 0 0 0 0 s.now ∧
      t.desk = { s.desk with apply := none } ∧ t.settings = some c ∧ t.settled = some c ∧
      t.drive.mode = (if s.drive.mode = .unconfigured then .disarmed else s.drive.mode) ∧
      t.drive.since = (if s.drive.mode = .unconfigured then s.now else s.drive.since) ∧
      t.timers.governor = some (s.us + 1000 * c.governing.framePeriod) ∧
      t.timers.governorPeriod = 1000 * c.governing.framePeriod ∧
      t.timers.dcLink = (if s.timers.dcLink.isSome then s.timers.dcLink else some (s.us + 500)) ∧
      t.timers.thermal = (if s.timers.dcLink.isSome then s.timers.thermal else some (s.us + 100000)) ∧
      t.grid = { s.grid with
        bankA := { s.grid.bankA with startDue := s.grid.bankA.startDue || !s.grid.bankA.modelRunning }
        bankB := { s.grid.bankB with startDue := s.grid.bankB.startDue || !s.grid.bankB.modelRunning } } ∧
      t.supervision.running = true ∧
      (s.supervision.running = false →
        t.supervision.window = .longWindow ∧ t.supervision.windowStart = s.now ∧
        t.timers.longWindow = some (s.us + 1000 * c.supervision.longWindow)) ∧
      (s.supervision.running = true → t.supervision = s.supervision ∧ t.timers.longWindow = s.timers.longWindow) ∧
      t.load = { s.load with acting := true } ∧ t.faults = s.faults ∧ t.exchange = s.exchange ∧ t.scan = s.scan ∧
      t.speed = s.speed ∧ t.selfLoad = s.selfLoad ∧ t.steer = s.steer ∧ t.trace = s.trace ∧
      (s.drive.mode ≠ .unconfigured → t.drive = s.drive ∧ t.link = s.link ∧ t.rows = s.rows) ∧
      keepsWords s t (slotWord o.slot)

/-! ## The governor frame (R16, R18, R19, R22 to R42, R82, R192) -/

/-- R23, R37, R38, R41, R192: a governor frame in a mode that commands no torque: both commands 0 and both torque records 0 with
ENABLE clear, integrator 0 and corrections 1000, the page written between equal stamps one above the last with the Mode and Since
it shows, and nothing else of the part changed but rows 1, 8 and 13, the two faults that a frame reports, and the recorder's
state. UNCONFIGURED writes no row and publishes limits of 0. -/
def Obligations.GovernorFrameWithoutTorque : Prop :=
  ∀ s : State, s.drive.mode.drives = false → ∃ t, exec .governorFrame s = .next t ∧
    t = { s with
      ram := t.ram, window := t.window, faults := t.faults, rows := t.rows, trace := t.trace, freeCount := s.freeCount + 1
      timers := { s.timers with governor := s.timers.governor.map (fun _ => s.us + s.timers.governorPeriod) }
      drive := { s.drive with
        held := t.drive.held, travel := t.drive.travel, limits := t.drive.limits, overSince := none, integrator := 0
        corrL := 1000, corrR := 1000, qL := 0, qR := 0, pageStamp := s.drive.pageStamp + 1 }
      link := { s.link with outgoing := { s.link.outgoing with
        left := { torque := 0, enable := false, reverse := decide (t.drive.travel = .reverse) }
        right := { torque := 0, enable := false, reverse := decide (t.drive.travel = .reverse) } } } } ∧
    (∀ r, r ≠ .speedCeiling → r ≠ .propelCeiling → r ≠ .retardCeiling → t.row r = s.row r) ∧
    (s.drive.mode = .unconfigured → t.rows = s.rows ∧ t.drive.limits = Limits.none) ∧
    (t.fault .retardInsufficient).active = false ∧
    (∀ c, c ≠ .retardInsufficient → c ≠ .traceOverrun → t.fault c = s.fault c) ∧
    raisesOnly s t [.fault, .limit, .traceHalf] ∧
    t.readWord 0x0140 = s.drive.pageStamp + 1 ∧ t.readWord 0x02FF = s.drive.pageStamp + 1 ∧
    t.readWord 0x0141 = BitVec.ofNat 16 s.drive.mode.code ∧ t.readWord 0x0142 = BitVec.ofNat 16 s.drive.since ∧
    t.readWord 0x0143 = BitVec.ofNat 16 (s.drive.since / 65536) ∧
    keepsWords s t (fun a => pageWord a ∨ faultWord .retardInsufficient a ∨ faultWord .traceOverrun a ∨ traceWord s a)

/-- R24 to R38: a governor frame in ARMED or FALLBACK. From the direction the frame settles and the limits it takes, the target,
the overspeed controller, the net request and each wheel's stages give the commands, which are kept and written into both torque
records with ENABLE set; FALLBACK masks the demands; a new travel sense in ARMED starts the integrator and both ramps from 0.
Nothing else of the part changes but rows 1, 8 and 13, two faults and the recorder's state. -/
def Obligations.GovernorFrameCommandsTorque : Prop :=
  ∀ s : State, s.drive.mode.drives = true → ∃ t, exec .governorFrame s = .next t ∧
    ∀ iOld : Int, iOld = (if turnsOver s then 0 else s.drive.integrator) →
      ∀ qOldL : Int, qOldL = (if turnsOver s then 0 else s.drive.qL) →
      ∀ qOldR : Int, qOldR = (if turnsOver s then 0 else s.drive.qR) →
      ∀ target : Int, target =
        (if s.drive.mode = .armed ∧ 0 < s.exchange.slate.speedHold then min t.drive.limits.ls s.exchange.slate.speedHold
         else t.drive.limits.ls) →
      ∀ control : Int × Int, control = overspeedControl s.inForce.governing.kp s.inForce.governing.ki s.speed.v target iOld
        (min t.drive.limits.rl t.drive.limits.rr) →
      ∀ request : Int × Int, request = netRequest control.2 (if s.drive.mode = .armed then s.exchange.slate.retard else 0)
        (if s.drive.mode = .armed ∧ s.drive.gate = false ∧ t.drive.held ≠ .neutral ∧
            s.exchange.slate.direction = t.drive.held
         then s.exchange.slate.propel else 0) target s.speed.v →
      ∀ left : WheelValues, left = wheelStages s.inForce.governing (decide (s.speed.mark = .degraded)) request.2 request.1
        t.drive.limits.pl t.drive.limits.rl s.speed.v s.published.steer.kL (s.channel .rearL).speed s.drive.corrL qOldL →
      ∀ right : WheelValues, right = wheelStages s.inForce.governing (decide (s.speed.mark = .degraded)) request.2 request.1
        t.drive.limits.pr t.drive.limits.rr s.speed.v s.published.steer.kR (s.channel .rearR).speed s.drive.corrR qOldR →
      t.link.outgoing.left = { torque := left.q, enable := true, reverse := decide (t.drive.travel = .reverse) } ∧
      t.link.outgoing.right = { torque := right.q, enable := true, reverse := decide (t.drive.travel = .reverse) } ∧
      t = { s with
        ram := t.ram, window := t.window, faults := t.faults, rows := t.rows, trace := t.trace, freeCount := s.freeCount + 1
        timers := { s.timers with governor := s.timers.governor.map (fun _ => s.us + s.timers.governorPeriod) }
        drive := { s.drive with
          held := t.drive.held, travel := t.drive.travel, limits := t.drive.limits, overSince := t.drive.overSince
          integrator := control.1, corrL := left.corr, corrR := right.corr, qL := left.q, qR := right.q
          gate := s.drive.gate && !(decide (s.drive.mode = .armed) && decide (s.exchange.slate.propel = 0))
          pageStamp := s.drive.pageStamp + 1 }
        link := { s.link with outgoing := { s.link.outgoing with
          left := t.link.outgoing.left, right := t.link.outgoing.right } } } ∧
      (∀ r, r ≠ .speedCeiling → r ≠ .propelCeiling → r ≠ .retardCeiling → t.row r = s.row r) ∧
      (∀ c, c ≠ .retardInsufficient → c ≠ .traceOverrun → t.fault c = s.fault c) ∧
      raisesOnly s t [.fault, .limit, .traceHalf] ∧
      t.readWord 0x0140 = s.drive.pageStamp + 1 ∧ t.readWord 0x02FF = s.drive.pageStamp + 1 ∧
      keepsWords s t (fun a => pageWord a ∨ faultWord .retardInsufficient a ∨ faultWord .traceOverrun a ∨ traceWord s a)

/-- R25, R26: the direction a governor frame settles. In UNCONFIGURED and FALLBACK, or while v is 5 or more, or where the slate
asks for the held direction, both stay; otherwise the held direction takes the slate's and the travel sense follows FORWARD or
REVERSE. R15, R16, R18: after a governor frame of a configured part rows 1, 8 and 13 are active at the ceilings, and each of the
five limits is the least Value over the active rows of its quantity that cover its wheel, bound by the lowest-numbered row that
holds it. That a descent row binds so also in REVERSE, where R79 says that one at the forward ceiling does not, is the model's
choice between the two rules (assumption log 74). -/
def Obligations.DirectionAndEffectiveLimits : Prop :=
  (∀ s : State, ∃ t, exec .governorFrame s = .next t ∧
    (s.drive.mode = .unconfigured ∨ s.drive.mode = .fallback ∨ 5 ≤ s.speed.v ∨ s.exchange.slate.direction = s.drive.held →
      t.drive.held = s.drive.held ∧ t.drive.travel = s.drive.travel) ∧
    (s.drive.mode ≠ .unconfigured → s.drive.mode ≠ .fallback → s.speed.v < 5 →
      t.drive.held = s.exchange.slate.direction ∧
      (s.exchange.slate.direction ≠ s.drive.held →
        t.drive.travel = (match s.exchange.slate.direction with
          | .neutral => s.drive.travel
          | .forward => .forward
          | .reverse => .reverse)))) ∧
  (∀ s : State, s.drive.mode ≠ .unconfigured → ∃ t, exec .governorFrame s = .next t ∧
    (t.row .speedCeiling).active = true ∧
    (t.row .speedCeiling).value = clamp 0 900
      (if t.drive.held = .reverse then s.inForce.ceilings.reverseSpeed else s.inForce.ceilings.forwardSpeed) ∧
    (t.row .propelCeiling).active = true ∧ (t.row .propelCeiling).value = clamp 0 1000 s.inForce.ceilings.propel ∧
    (t.row .retardCeiling).active = true ∧ (t.row .retardCeiling).value = clamp 0 1000 s.inForce.ceilings.retard ∧
    bindsAt t .speed .left t.drive.limits.ls t.drive.limits.lsRow ∧
    bindsAt t .propel .left t.drive.limits.pl t.drive.limits.plRow ∧
    bindsAt t .propel .right t.drive.limits.pr t.drive.limits.prRow ∧
    bindsAt t .retard .left t.drive.limits.rl t.drive.limits.rlRow ∧
    bindsAt t .retard .right t.drive.limits.rr t.drive.limits.rrRow)

/-- R19: after the limits of a frame are computed LIMIT is set exactly where the binding row of Ls differs from that of the frame
before, row 0 counting as a row; every reset leaves row 0 to compare against. -/
def Obligations.LimitCauseFollowsBindingRow : Prop :=
  (∀ s : State, s.drive.mode ≠ .unconfigured → ∃ t, exec .governorFrame s = .next t ∧
    (t.window.attn.getLsbD 3 = true ↔
      s.window.attn.getLsbD 3 = true ∨ t.drive.limits.lsRow ≠ s.drive.limits.lsRow)) ∧
  (∀ s : State, ∃ t, exec .powerOnReset s = .next t ∧ t.drive.limits.lsRow = 0) ∧
  ∀ (k : ResetKind) (s : State), (k = .soft → s.window.runctl = 0) →
    ∃ t, exec (restartCommand k) s = .next t ∧ t.drive.limits.lsRow = 0

/-- R28, R29: the overspeed controller keeps I and S in [0, 1000]; while its candidate request passes the retard limit the
integrator does not rise, and otherwise both candidates stand. At standstill the stored integrator counts as 0. R30: the net
request is retard or propel and never both: the larger of the two retard requests where there is one; otherwise the whole propel
demand at 10 or more below the target, a tenth of it for each unit below that, and none at the target or above. -/
def Obligations.ControllerAndNetRequest : Prop :=
  (∀ kp ki v t old limit : Int, 0 ≤ old → old ≤ 1000 →
    ∀ iOld : Int, iOld = (if v = 0 then 0 else old) → ∀ i1 : Int, i1 = max 0 (min 1000 (iOld + ki * (v - t) / 16)) →
      ∀ s1 : Int, s1 = max 0 (min 1000 (kp * (v - t) / 8 + i1)) →
      (limit < s1 → overspeedControl kp ki v t old limit =
        (min i1 iOld, max 0 (min 1000 (kp * (v - t) / 8 + min i1 iOld)))) ∧
      (s1 ≤ limit → overspeedControl kp ki v t old limit = (i1, s1)) ∧
      0 ≤ (overspeedControl kp ki v t old limit).1 ∧ (overspeedControl kp ki v t old limit).1 ≤ 1000 ∧
      0 ≤ (overspeedControl kp ki v t old limit).2 ∧ (overspeedControl kp ki v t old limit).2 ≤ 1000) ∧
  (∀ s dr dp t v : Int, 0 ≤ s → 0 ≤ dr → 0 ≤ dp →
    (0 < s ∨ 0 < dr → netRequest s dr dp t v = (max dr s, 0)) ∧
    (s = 0 → dr = 0 → 10 ≤ t - v → netRequest s dr dp t v = (0, dp)) ∧
    (s = 0 → dr = 0 → t - v < 10 → netRequest s dr dp t v = (0, dp * max 0 (t - v) / 10)) ∧
    ((netRequest s dr dp t v).1 = 0 ∨ (netRequest s dr dp t v).2 = 0) ∧
    0 ≤ (netRequest s dr dp t v).2 ∧ (netRequest s dr dp t v).2 ≤ dp)

/-- R31 to R36: one wheel's stages: the clamp of the request, the expected speed, the slip (0 under a degraded reference, where
the correction is kept), the correction cut or recovered within its bounds, the target, and the command: the target where it lies
within Ramp of the command before, otherwise that command moved by Ramp toward it, clamped to the wheel's limits. -/
def Obligations.WheelStagesFollowTheRules : Prop :=
  ∀ (c : GoverningSettings) (degraded : Bool) (pq rq pLimit rLimit v k w oldCorr oldQ : Int),
    ∀ x : WheelValues, x = wheelStages c degraded pq rq pLimit rLimit v k w oldCorr oldQ → 0 ≤ pLimit → 0 ≤ rLimit → 0 < c.ramp →
    x.p = min pq pLimit ∧ x.r = min rq rLimit ∧ x.u = v * k / 1000 ∧
    (degraded = true → x.slip = 0 ∧ x.corr = oldCorr) ∧
    (degraded = false → 0 < x.p → x.slip = max 0 ((w - x.u) * 1000 / max x.u 20)) ∧
    (degraded = false → x.p ≤ 0 → 0 < x.r → x.slip = max 0 ((x.u - w) * 1000 / max x.u 20)) ∧
    (degraded = false → x.p ≤ 0 → x.r ≤ 0 → x.slip = 0) ∧
    (degraded = false → c.slipThreshold < x.slip → x.corr = max c.cMin (oldCorr - c.cutStep)) ∧
    (degraded = false → x.slip ≤ c.slipThreshold → x.corr = min 1000 (oldCorr + c.recoverStep)) ∧
    x.target = x.p * x.corr / 1000 - x.r * x.corr / 1000 ∧
    -rLimit ≤ x.q ∧ x.q ≤ pLimit ∧
    (-rLimit ≤ oldQ → oldQ ≤ pLimit → oldQ - c.ramp ≤ x.q ∧ x.q ≤ oldQ + c.ramp) ∧
    (oldQ - c.ramp ≤ x.target → x.target ≤ oldQ + c.ramp → x.q = max (-rLimit) (min pLimit x.target)) ∧
    (oldQ + c.ramp < x.target → x.q = max (-rLimit) (min pLimit (oldQ + c.ramp))) ∧
    (x.target < oldQ - c.ramp → x.q = max (-rLimit) (min pLimit (oldQ - c.ramp)))

/-- R82: RETARD INSUFFICIENT in ARMED and FALLBACK. A frame with v at or below Ls plus the Overspeed Margin ends the episode; the
first frame above it starts one; 2000 ms into the episode the fault is raised with the binding row of Ls. -/
def Obligations.RetardInsufficientAfterTwoSeconds : Prop :=
  ∀ s : State, s.drive.mode.drives = true → ∃ t, exec .governorFrame s = .next t ∧
    ((s.speed.v : Int) ≤ t.drive.limits.ls + s.inForce.descent.overspeedMargin →
      t.drive.overSince = none ∧ (t.fault .retardInsufficient).active = false) ∧
    (t.drive.limits.ls + s.inForce.descent.overspeedMargin < s.speed.v → s.drive.overSince = none →
      t.drive.overSince = some s.now ∧ t.fault .retardInsufficient = s.fault .retardInsufficient) ∧
    (∀ since, t.drive.limits.ls + s.inForce.descent.overspeedMargin < s.speed.v → s.drive.overSince = some since →
      t.drive.overSince = some since ∧
      (elapsed s.now since < 2000 → t.fault .retardInsufficient = s.fault .retardInsufficient) ∧
      (2000 ≤ elapsed s.now since → (t.fault .retardInsufficient).active = true ∧
        ((s.fault .retardInsufficient).active = false →
          (t.fault .retardInsufficient).detail = t.drive.limits.lsRow ∧
          (t.fault .retardInsufficient).lastTime = s.now ∧ t.window.attn.getLsbD 1 = true)))

/-! ## The Grid Manager (R45 to R81) -/

/-- R45, R48, R59 to R66, R70: a DC-link frame of a configured part outside SELF-LOAD. V VALID moves the duty total by the floored
step and cuts it to the two caps; out of range V is kept and the total only cut; NEVER leaves both duties 0. While not HIGH the
duties are R65's distribution of the total, which places the whole of it, each within its bank's cap; while HIGH every available
bank is given 1000; a bank that is not available is given 0. R61: a cap is 1000 in READY, the floored share of the range from Warn
θ to Trip θ in DERATED, 0 in every other Stage, reduced while the blower fault is Active, and never leaves 0 to 1000; for a
DERATED bank whose θ has reached Trip θ the manual's formula leaves its own range, and the share is free in [1, 1000] (the model's
choice, assumption log 51). R59, R60: with no test in progress a blower is asked for by a duty or by θ, and its fault judged.
Station 3's record carries the duties and the blower demands, and row 14 the capacity. R53: in any configured mode a frame adds
its V, its bank currents and its duties to the sums of the thermal frame in progress and counts itself; a role that is not VALID
adds nothing and is marked. That V is kept in NEVER is the model's choice (log 61). UNCONFIGURED runs no frame. -/
def Obligations.DcLinkFrameRegulates : Prop :=
  ∀ s : State, (s.drive.mode = .unconfigured → exec .dcLinkFrame s = .next s) ∧
    (s.drive.mode ≠ .unconfigured → ∃ t, exec .dcLinkFrame s = .next t ∧
      t.grid.sums.frames = s.grid.sums.frames + 1 ∧
      t.grid.sums.dutyA = s.grid.sums.dutyA + t.grid.bankA.duty ∧ t.grid.sums.dutyB = s.grid.sums.dutyB + t.grid.bankB.duty ∧
      ((s.sample .dcLinkVoltage).state = .valid → t.grid.sums.vInvalid = s.grid.sums.vInvalid ∧
        t.grid.sums.v = s.grid.sums.v + (s.sample .dcLinkVoltage).value) ∧
      ((s.sample .dcLinkVoltage).state ≠ .valid → t.grid.sums.vInvalid = true ∧ t.grid.sums.v = s.grid.sums.v) ∧
      ((s.sample .bankACurrent).state = .valid → t.grid.sums.iAInvalid = s.grid.sums.iAInvalid ∧
        t.grid.sums.iA = s.grid.sums.iA + (s.sample .bankACurrent).value) ∧
      ((s.sample .bankACurrent).state ≠ .valid → t.grid.sums.iAInvalid = true ∧ t.grid.sums.iA = s.grid.sums.iA) ∧
      ((s.sample .bankBCurrent).state = .valid → t.grid.sums.iBInvalid = s.grid.sums.iBInvalid ∧
        t.grid.sums.iB = s.grid.sums.iB + (s.sample .bankBCurrent).value) ∧
      ((s.sample .bankBCurrent).state ≠ .valid → t.grid.sums.iBInvalid = true ∧ t.grid.sums.iB = s.grid.sums.iB)) ∧
    (s.drive.mode ≠ .unconfigured → s.drive.mode ≠ .selfLoad → ∃ t, exec .dcLinkFrame s = .next t ∧
      ((s.sample .dcLinkVoltage).state = .valid → t.grid.v = (s.sample .dcLinkVoltage).value ∧
        t.grid.dutyTotal = clamp 0 (t.grid.bankA.derate + t.grid.bankB.derate) (s.grid.dutyTotal +
          s.inForce.grids.kv * ((s.sample .dcLinkVoltage).value - s.inForce.grids.vRef) / 64)) ∧
      ((s.sample .dcLinkVoltage).state = .outOfRange → t.grid.v = s.grid.v ∧
        t.grid.dutyTotal = min s.grid.dutyTotal (t.grid.bankA.derate + t.grid.bankB.derate) ∧
        t.row .linkUndervoltagePropel = s.row .linkUndervoltagePropel ∧
        t.row .linkOvervoltageRetard = s.row .linkOvervoltageRetard) ∧
      ((s.sample .dcLinkVoltage).state = .never →
        t.grid.dutyTotal = 0 ∧ t.grid.bankA.duty = 0 ∧ t.grid.bankB.duty = 0 ∧ t.grid.v = s.grid.v ∧
        t.row .linkUndervoltagePropel = s.row .linkUndervoltagePropel ∧
        t.row .linkOvervoltageRetard = s.row .linkOvervoltageRetard) ∧
      ((s.sample .dcLinkVoltage).state ≠ .never → t.grid.ovHigh = false →
        sharesOut t.grid.dutyTotal t.grid.bankA t.grid.bankB) ∧
      ((s.sample .dcLinkVoltage).state = .valid ∨
          ((s.sample .dcLinkVoltage).state = .outOfRange ∧ 0 ≤ s.grid.dutyTotal) → t.grid.ovHigh = false →
        0 ≤ t.grid.bankA.derate → 0 ≤ t.grid.bankB.derate →
        t.grid.bankA.duty + t.grid.bankB.duty = t.grid.dutyTotal ∧ 0 ≤ t.grid.bankA.duty ∧ 0 ≤ t.grid.bankB.duty ∧
        t.grid.bankA.duty ≤ t.grid.bankA.derate ∧ t.grid.bankB.duty ≤ t.grid.bankB.derate) ∧
      (∀ k, ((t.bank k).available = false → (t.bank k).duty = 0) ∧
        ((t.bank k).available = true → t.grid.ovHigh = true → (s.sample .dcLinkVoltage).state ≠ .never →
          (t.bank k).duty = 1000) ∧
        ((t.bank k).stage = .ready → (t.bank k).derate =
          if (s.fault k.blowerCode).active then 1000 * (s.bankSettings k).noBlower / 1000 else 1000) ∧
        ((t.bank k).stage = .derated → (s.bank k).theta < (s.bankSettings k).tripTheta → ∀ share : Int,
          share = 1000 * ((s.bankSettings k).tripTheta - (s.bank k).theta) /
            ((s.bankSettings k).tripTheta - (s.bankSettings k).warnTheta) →
          (t.bank k).derate = if (s.fault k.blowerCode).active then share * (s.bankSettings k).noBlower / 1000 else share) ∧
        ((t.bank k).stage = .derated → (s.bankSettings k).tripTheta ≤ (s.bank k).theta →
          (s.fault k.blowerCode).active = false → 1 ≤ (t.bank k).derate ∧ (t.bank k).derate ≤ 1000) ∧
        ((t.bank k).stage = .tripped ∨ (t.bank k).stage = .lockedOut ∨ (t.bank k).stage = .offline →
          (t.bank k).derate = 0) ∧
        (0 ≤ (s.bankSettings k).noBlower → (s.bankSettings k).noBlower ≤ 1000 →
          0 ≤ (t.bank k).derate ∧ (t.bank k).derate ≤ 1000)) ∧
      (s.selfLoad.phase = .idle → ∀ k,
        (t.bank k).blowerDemand = ((s.bankSettings k).enabled &&
          (decide (0 < (t.bank k).duty) || decide (s.inForce.grids.blowerOffTheta < (s.bank k).theta))) ∧
        (t.bank k).blowerSince =
          (if (t.bank k).blowerDemand && !(s.bank k).blowerDemand then s.now else (s.bank k).blowerSince) ∧
        (t.bank k).blowerRunning = (s.bank k).blowerRunning) ∧
      (∀ k, ((s.bankSettings k).enabled = false → (t.fault k.blowerCode).active = false) ∧
        ((s.bankSettings k).enabled = true → (s.station .chopper).state ≠ .present →
          t.fault k.blowerCode = s.fault k.blowerCode) ∧
        ((s.bankSettings k).enabled = true → (s.station .chopper).state = .present →
          ((t.bank k).blowerRunning = true ∨ (t.bank k).blowerDemand = false → (t.fault k.blowerCode).active = false) ∧
          ((t.bank k).blowerRunning = false → (t.bank k).blowerDemand = true →
            (s.inForce.grids.blowerStartTime ≤ elapsed s.now (t.bank k).blowerSince →
              (t.fault k.blowerCode).active = true) ∧
            (elapsed s.now (t.bank k).blowerSince < s.inForce.grids.blowerStartTime →
              t.fault k.blowerCode = s.fault k.blowerCode)))) ∧
      t.grid.pAvail = min s.inForce.grids.inverterRetardMax
        ((s.bankSettings .a).ratedPower * t.grid.bankA.derate / 1000 +
          (s.bankSettings .b).ratedPower * t.grid.bankB.derate / 1000) ∧
      t.link.outgoing.chopper = { dutyA := t.grid.bankA.duty, dutyB := t.grid.bankB.duty
                                  blowerA := t.grid.bankA.blowerDemand, blowerB := t.grid.bankB.blowerDemand } ∧
      (t.row .gridCapacity).active = true ∧
      (t.row .gridCapacity).value = clamp 0 1000
        (min 1000 (36000 * t.grid.pAvail / (s.inForce.grids.ratedRimForce * max (s.speed.v : Int) 20))) ∧
      t.timers.dcLink = s.timers.dcLink.map (fun _ => s.us + 500) ∧
      t.settings = s.settings ∧ t.settled = s.settled ∧ t.exchange = s.exchange ∧ t.steer = s.steer ∧ t.load = s.load ∧
      t.scan = s.scan ∧ t.speed = s.speed ∧ t.trace = s.trace ∧ t.freeCount = s.freeCount ∧
      (s.selfLoad.phase = .idle → t.selfLoad = s.selfLoad ∧ t.desk = s.desk ∧
        keepsWords s t (fun a => ∃ c ∈ gridCodes, faultWord c a)) ∧
      (∀ c, c ∉ gridCodes → t.fault c = s.fault c) ∧
      t.link = { s.link with outgoing := t.link.outgoing, haltPending := t.link.haltPending } ∧
      (s.selfLoad.phase = .idle → t.drive.mode = s.drive.mode → t.drive = s.drive ∧
        ∀ r, r ≠ .linkUndervoltagePropel → r ≠ .gridCapacity → r ≠ .linkOvervoltageRetard → t.row r = s.row r))

/-- R67, R68, R69, R11: the link voltage supervision of a DC-link frame with V VALID, where no row 17 is still to be restored
after a reset. From NORMAL at V_ov HIGH begins with row 17 at Retard OV Cap. In HIGH the fault is raised once OV Persist is
reached, which takes ARMED and FALLBACK to TRIPPED with that cause. Below V_ov less the hysteresis HIGH ends, the fault is absent,
and row 17 goes inactive, but it is held after a reported episode with OV Latch and stays where it is held already (log 32: a held
row stays through a later episode). That row 17 keeps the cap of its entry through an episode, and that a frame which ends HIGH
does not raise the fault even where OV Persist has elapsed, are the model's choices (logs 66 and 67). Row 12 tapers propel below
V_uv. R68: the first such frame after a reset restores row 17, and holds it, where OV Latch is set and the fault still Latched. -/
def Obligations.LinkVoltageSupervised : Prop :=
  (∀ s : State, s.drive.mode ≠ .unconfigured → s.drive.mode ≠ .selfLoad → s.selfLoad.phase = .idle →
    s.grid.ovRecheck = false → (s.sample .dcLinkVoltage).state = .valid →
    ∀ v : Int, v = (s.sample .dcLinkVoltage).value → ∃ t, exec .dcLinkFrame s = .next t ∧
      (s.grid.ovHigh = false → s.inForce.grids.vOv ≤ v → t.grid.ovHigh = true ∧ t.grid.ovEntry = s.now ∧
        t.grid.ovReported = false ∧ (t.row .linkOvervoltageRetard).active = true ∧
        (t.row .linkOvervoltageRetard).value = clamp 0 1000 s.inForce.grids.retardOvCap ∧ t.drive = s.drive) ∧
      (s.grid.ovHigh = false → v < s.inForce.grids.vOv → t.grid.ovHigh = false ∧
        t.row .linkOvervoltageRetard = s.row .linkOvervoltageRetard ∧ t.drive = s.drive) ∧
      (s.grid.ovHigh = true → v < s.inForce.grids.vOv - s.inForce.grids.ovHysteresis →
        t.grid.ovHigh = false ∧ (t.fault .dcLinkOvervoltage).active = false ∧ t.drive = s.drive ∧
        (s.grid.ovReported = true → s.inForce.grids.ovLatch = true →
          t.row .linkOvervoltageRetard = s.row .linkOvervoltageRetard ∧ t.grid.ovHeld = true) ∧
        (s.grid.ovReported = false ∨ s.inForce.grids.ovLatch = false →
          t.grid.ovHeld = s.grid.ovHeld ∧
          (s.grid.ovHeld = true → t.row .linkOvervoltageRetard = s.row .linkOvervoltageRetard) ∧
          (s.grid.ovHeld = false → (t.row .linkOvervoltageRetard).active = false))) ∧
      (s.grid.ovHigh = true → s.inForce.grids.vOv - s.inForce.grids.ovHysteresis ≤ v →
        t.grid.ovHigh = true ∧ t.row .linkOvervoltageRetard = s.row .linkOvervoltageRetard ∧
        (elapsed s.now s.grid.ovEntry < s.inForce.grids.ovPersist ∨ s.grid.ovReported = true →
          t.fault .dcLinkOvervoltage = s.fault .dcLinkOvervoltage ∧ t.drive = s.drive) ∧
        (s.inForce.grids.ovPersist ≤ elapsed s.now s.grid.ovEntry → s.grid.ovReported = false →
          t.grid.ovReported = true ∧ (t.fault .dcLinkOvervoltage).active = true ∧
          ((s.fault .dcLinkOvervoltage).active = false → s.drive.mode.drives = true →
            t.drive.mode = .tripped ∧ t.drive.tripCause = some .dcLinkOvervoltage ∧ t.drive.since = s.now ∧
            t.drive.qL = 0 ∧ t.drive.qR = 0 ∧ t.link.outgoing.left.torque = 0 ∧ t.link.outgoing.left.enable = false ∧
            t.link.outgoing.right.torque = 0 ∧ t.link.outgoing.right.enable = false ∧
            (s.link.enabled = true → s.link.halting = false → t.link.haltPending = true)))) ∧
      ((t.row .linkUndervoltagePropel).active = true ↔ v < s.inForce.grids.vUv) ∧
      (v < s.inForce.grids.vUv → (t.row .linkUndervoltagePropel).value = clamp 0 1000
        (1000 * max 0 (v - s.inForce.grids.vMin) / (s.inForce.grids.vUv - s.inForce.grids.vMin))) ∧
      ((t.fault .dcLinkUndervoltage).active = true ↔ v < s.inForce.grids.vMin ∧ t.drive.mode = .armed)) ∧
  (∀ s : State, s.drive.mode ≠ .unconfigured → s.grid.ovRecheck = true → (s.sample .dcLinkVoltage).state = .valid →
    s.inForce.grids.ovLatch = true → (s.fault .dcLinkOvervoltage).latched = true → ∃ t, exec .dcLinkFrame s = .next t ∧
      t.grid.ovRecheck = false ∧ t.grid.ovHeld = true ∧ (t.row .linkOvervoltageRetard).active = true ∧
      (t.row .linkOvervoltageRetard).value = clamp 0 1000 s.inForce.grids.retardOvCap)

/-- R53 to R56, R45: a thermal frame over n DC-link frames: the sums are emptied, a running model's θ moves by the floored heating
less cooling and stays in [−400, 12000], and a model whose start is due starts from the outlet air or Start Temperature.
UNCONFIGURED runs no frame. -/
def Obligations.ThermalFrameUpdatesModels : Prop :=
  ∀ s : State, (s.drive.mode = .unconfigured → exec .thermalFrame s = .next s) ∧
    (s.drive.mode ≠ .unconfigured → ∃ t, exec .thermalFrame s = .next t ∧
      t.grid.sums = GridSums.empty ∧ t.timers = { s.timers with thermal := s.timers.thermal.map (fun _ => s.us + 100000) } ∧
      t.drive = s.drive ∧ t.link = s.link ∧ t.load = s.load ∧ t.steer = s.steer ∧ t.scan = s.scan ∧ t.speed = s.speed ∧
      t.supervision = s.supervision ∧ t.selfLoad = s.selfLoad ∧ t.desk = s.desk ∧ t.exchange = s.exchange ∧
      t.published = s.published ∧ t.freeCount = s.freeCount + 1 ∧
      (∀ r, r ≠ .descentSpeed → t.row r = s.row r) ∧ (∀ c, c ∉ gridCodes → t.fault c = s.fault c) ∧
      keepsWords s t (fun a => ∃ c ∈ gridCodes, faultWord c a) ∧
      ∀ k : BankId,
        (∀ n : Nat, n = s.grid.sums.frames → 0 < n →
          ∀ meanV : Int, meanV = (if s.grid.sums.vInvalid then s.grid.lastMeanV else s.grid.sums.v / n) →
          ∀ power : Int, power =
            (if s.grid.sums.currentInvalid k then
              meanV * meanV * (dutySum s k / n) / ((s.bankSettings k).resistance * 1000)
            else meanV * (currentSum s k / n) / 1000) →
          ∀ cooling : Int, cooling =
            (if (s.bank k).blowerRunning then (s.bankSettings k).coolingGain * s.inForce.grids.altitudeCooling / 1000
            else (s.bankSettings k).coolingGain * s.inForce.grids.altitudeCooling * (s.bankSettings k).noBlower / 1000000) →
          ∀ ambient : Int, ambient = (if (s.sample .ambient).state = .valid then (s.sample .ambient).value else 200) →
          (t.bank k).meanPower = power ∧ (t.bank k).meanDuty = dutySum s k / n ∧
          ((s.bank k).modelRunning = true → (t.bank k).theta = max (-400) (min 12000 ((s.bank k).theta +
            (power * (s.bankSettings k).heatingGain - ((s.bank k).theta - ambient) * cooling) / 4096)))) ∧
        ((s.bank k).modelRunning = false → (s.bank k).startDue = true → (t.bank k).modelRunning = true ∧
          (t.bank k).theta = (if (s.sample k.airRole).state = .valid then (s.sample k.airRole).value
            else s.inForce.grids.startTemperature)) ∧
        ((s.bank k).modelRunning = false → (s.bank k).startDue = false →
          (t.bank k).modelRunning = false ∧ (t.bank k).theta = (s.bank k).theta))

/-- R48 to R50, R57, R58: the trips and returns of a thermal frame, and the settling and the CHOPPER trip of a DC-link frame. A
bank that was READY or DERATED trips in a thermal frame with the first cause found: THETA where its θ has reached Trip θ, AIR
where its outlet air is at Air Trip, CIRCUIT where the circuit check fails; without a cause it does not trip. It is TRIPPED, or
LOCKED OUT at the third trip within the Lockout Window, and its fault is Active. Air Over follows a VALID outlet-air role, and a
failed circuit check is Latched without Active. A TRIPPED bank that is cool and without any cause returns with its fault absent; a
LOCKED OUT bank stays. At a DC-link frame every bank but a TRIPPED or LOCKED OUT one is settled by its offline condition and θ,
and trips with CHOPPER, with duty 0, where it is then READY or DERATED and the chopper reports its fault. -/
def Obligations.ThermalFrameTripsAndReturnsBanks : Prop :=
  (∀ s : State, s.drive.mode ≠ .unconfigured → ∃ t, exec .thermalFrame s = .next t ∧ ∀ k : BankId,
    ((s.bank k).available = true → (s.bankSettings k).tripTheta ≤ (t.bank k).theta →
      (s.bankSettings k).restartTheta < (s.bankSettings k).tripTheta → bankTripped s t k .theta) ∧
    ((s.bank k).available = true → (t.bank k).theta < (s.bankSettings k).tripTheta → (t.bank k).airOver = true →
      bankTripped s t k .air) ∧
    (0 < s.grid.sums.frames →
      (circuitCheckFails s k → (t.bank k).circuitFailed = true ∧ (t.fault k.circuitCode).active = false ∧
        ((s.fault k.circuitCode).active = false → (t.fault k.circuitCode).latched = true) ∧
        ((s.bank k).available = true → (t.bank k).theta < (s.bankSettings k).tripTheta → (t.bank k).airOver = false →
          bankTripped s t k .circuit)) ∧
      (¬ circuitCheckFails s k →
        (t.bank k).circuitFailed = (s.bank k).circuitFailed ∧ t.fault k.circuitCode = s.fault k.circuitCode ∧
        ((s.bank k).available = true → (t.bank k).theta < (s.bankSettings k).tripTheta → (t.bank k).airOver = false →
          settlesTo s k (t.bank k) (t.bank k).stage ∧ (t.bank k).lastTripCause = (s.bank k).lastTripCause))) ∧
    ((s.bankSettings k).enabled = false → (t.bank k).airOver = false ∧ (t.fault k.airCode).active = false) ∧
    ((s.bankSettings k).enabled = true → (s.sample k.airRole).state = .valid →
      ((t.bank k).airOver = true ↔ (s.bankSettings k).airTrip ≤ (s.sample k.airRole).value) ∧
      (t.fault k.airCode).active = (t.bank k).airOver) ∧
    ((s.bankSettings k).enabled = true → (s.sample k.airRole).state ≠ .valid →
      (t.bank k).airOver = (s.bank k).airOver ∧
      (s.grid.reportAnew = false → t.fault k.airCode = s.fault k.airCode)) ∧
    ((s.bank k).stage = .lockedOut → (t.bank k).stage = .lockedOut ∧ (t.bank k).derate = 0) ∧
    ((s.bank k).stage = .tripped → (s.bankSettings k).restartTheta < (t.bank k).theta → (t.bank k).stage = .tripped) ∧
    ((s.bank k).stage = .tripped → (t.bank k).theta ≤ (s.bankSettings k).restartTheta → (t.bank k).airOver = false →
      (t.bank k).circuitFailed = false → s.bankFaultFlag k = false → s.grid.reportAnew = false →
      settlesTo s k (t.bank k) (t.bank k).stage ∧ (t.fault k.tripCode).active = false)) ∧
  (∀ s : State, s.drive.mode ≠ .unconfigured → ∃ t, exec .dcLinkFrame s = .next t ∧ ∀ k : BankId,
    ((s.bank k).stage = .tripped ∨ (s.bank k).stage = .lockedOut → (t.bank k).stage = (s.bank k).stage) ∧
    ((s.bank k).stage ≠ .tripped → (s.bank k).stage ≠ .lockedOut →
      (isOffline s k ∨ s.bankFaultFlag k = false → settlesTo s k (s.bank k) (t.bank k).stage ∧
        (t.bank k).lastTripCause = (s.bank k).lastTripCause) ∧
      (¬ isOffline s k → s.bankFaultFlag k = true → bankTripped s t k .chopper ∧ (t.bank k).duty = 0)))

/-- R61, R62, R74 to R79: the descent row of a thermal frame, from the grade and gross mass used and the P_avail the frame
computes: inactive outside ARMED and FALLBACK and on a grade that is not downhill, 0 without power, and otherwise the floored
quotient, at most the Forward Speed Ceiling. In FALLBACK the grade used does not fall. That P_avail is the lower of Inverter
Retard Power Max and the floored shares of both banks' Derates, each that of the Stage and θ in which the frame leaves the bank:
1000 in READY, the floored share of the range from Warn θ to Trip θ in DERATED, 0 in every other Stage, reduced while the blower
fault is Active; for a DERATED bank whose θ has reached Trip θ the share is free in [1, 1000] (the model's choice, assumption log
51). Where no Rated Power, No-Blower Factor or Inverter Retard Power Max in force is negative, P_avail is not below 0. -/
def Obligations.DescentRowFollowsPower : Prop :=
  ∀ s : State, s.drive.mode ≠ .unconfigured →
    ∀ grade : Int, grade = (if s.drive.mode = .fallback then max s.grid.descent.gradeUsed s.exchange.slate.grade
      else s.exchange.slate.grade) →
    ∀ e : Int, e = grade - s.inForce.descent.rollingResistance →
    ∀ mass : Int, mass = s.grid.grossMass.getD (s.inForce.load.emptyMass + s.inForce.load.ratedPayload) →
    ∃ t, exec .thermalFrame s = .next t ∧ t.grid.descent.gradeUsed = grade ∧ t.grid.descent.effectiveGrade = e ∧
      t.grid.descent.grossMassUsed = mass ∧ t.grid.descent.powerUsed = t.grid.pAvail ∧
      powerFollows s t ∧ (∀ k, derateFollows s t k) ∧
      ((∀ k, 0 ≤ (s.bankSettings k).ratedPower ∧ 0 ≤ (s.bankSettings k).noBlower) → 0 ≤ s.inForce.grids.inverterRetardMax →
        0 ≤ t.grid.pAvail) ∧
      (s.drive.mode.drives = false →
        (t.row .descentSpeed).active = false ∧ (t.row .descentSpeed).value = (s.row .descentSpeed).value ∧
        t.grid.descent.condition = .notDriving) ∧
      (s.drive.mode.drives = true → e ≤ 0 → (t.row .descentSpeed).active = false ∧
        t.grid.descent.condition = .notDownhill) ∧
      (s.drive.mode.drives = true → 0 < e → t.grid.pAvail = 0 → (t.row .descentSpeed).active = true ∧
        (t.row .descentSpeed).value = 0 ∧ t.grid.descent.condition = .noPower) ∧
      (s.drive.mode.drives = true → 0 < e → t.grid.pAvail ≠ 0 →
        ∀ quotient : Int, quotient = 360000 * t.grid.pAvail * s.inForce.descent.descentMargin / (981 * mass * e) →
        (t.row .descentSpeed).active = true ∧
        (t.row .descentSpeed).value = clamp 0 900 (min s.inForce.ceilings.forwardSpeed quotient) ∧
        (t.grid.descent.condition = .ceiling ↔ s.inForce.ceilings.forwardSpeed ≤ quotient))

/-! ## The Steering Servo (R86 to R103) -/

/-- R86, R90 to R95, R99, R101 to R103: a steering frame of a servo in NORMAL or RESERVE. With the feedback VALID the limited
demand is the source demand within the Max Angle of the speed, Target moves toward it by at most the frame's step, Flow is the
floored and clamped product of the error, the ratios are those of the angle, and row 4 follows the curve tables at the larger of
the two angles and the load fraction, which is free in [0, 1000] before the Load Monitor has given its values (the model's choice,
assumption log 10). Without feedback the servo fails at once: FAILED, Flow 0, row 5 active at 0, the fault Active. The outgoing
flow is Flow. With the timer stopped no frame runs, which is the model's choice (log 3). -/
def Obligations.SteeringFrame : Prop :=
  (∀ s : State, s.timers.steering = none → exec .steeringFrame s = .next s) ∧
  ∀ s : State, s.timers.steering ≠ none → s.steer.first = false →
    s.steer.state = .normal ∨ s.steer.state = .reserve → s.drive.mode ≠ .unconfigured →
    ∃ t, exec .steeringFrame s = .next t ∧
      t = { s with
        ram := t.ram, window := t.window, faults := t.faults, rows := t.rows, steer := t.steer, freeCount := s.freeCount + 1
        timers := { s.timers with steering := some (s.us + 5000) }
        published := { s.published with steer := t.steer, trackTime := t.published.trackTime }
        link := { s.link with outgoing := { s.link.outgoing with flow := t.steer.flow } } } ∧
      (∀ r, r ≠ .curveSpeed → r ≠ .steerReserveSpeed → t.row r = s.row r) ∧
      (∀ c, c ∉ steerCodes → t.fault c = s.fault c) ∧ keepsWords s t (fun a => ∃ c ∈ steerCodes, faultWord c a) ∧
      (t.row .curveSpeed).active = true ∧
      (t.row .curveSpeed).value =
        clamp 0 900 (t.steer.ce + ((t.steer.cl - t.steer.ce) * t.steer.fraction).tdiv 1000) ∧
      t.steer.ce = interpolate s.active.steer.emptyCurve t.steer.curveAngle ∧
      t.steer.cl = interpolate s.active.steer.loadedCurve t.steer.curveAngle ∧
      t.steer.curveAngle = max (min (magnitude t.steer.target) 4200)
        (min (if (s.sample .roadWheelAngle).state = .valid then magnitude t.steer.measured else s.active.steer.maxLock) 4200) ∧
      (∀ x, s.steer.given = some x → t.steer.fraction = min x.1 x.2 * 1000 / x.2) ∧
      (s.steer.given = none → 0 ≤ t.steer.fraction ∧ t.steer.fraction ≤ 1000) ∧
      t.steer.rowFor = some t.steer.state ∧ t.steer.maxAngle = interpolate s.active.steer.maxAngleTable s.speed.v ∧
      t.steer.limitedDemand = clamp (-t.steer.maxAngle) t.steer.maxAngle t.steer.sourceDemand ∧
      (s.active.steer.demandSource = .slate → s.drive.mode ≠ .fallback →
        t.steer.source = .slate ∧ t.steer.sourceDemand = s.exchange.slate.steering) ∧
      (t.steer.state = .failed → t.steer.flow = 0 ∧ (t.row .steerReserveSpeed).active = true ∧
        (t.row .steerReserveSpeed).value = 0) ∧
      ((s.sample .roadWheelAngle).state = .valid → t.steer.measured = (s.sample .roadWheelAngle).value ∧
        (t.fault .steerFeedbackInvalid).active = false ∧
        (t.steer.state = .normal ∨ t.steer.state = .reserve →
          t.steer.step = (if t.steer.state = .reserve
            then min (interpolate s.active.steer.rateTable s.speed.v) s.active.steer.reserveRate
            else interpolate s.active.steer.rateTable s.speed.v) * 5 / 1000 ∧
          t.steer.target = moveToward t.steer.step s.steer.target t.steer.limitedDemand ∧
          t.steer.flow = clamp (-1000) 1000 (s.active.steer.ks * (t.steer.target - t.steer.measured) / 16)) ∧
        (∀ g : Int, g = s.active.steer.trackGain * min (magnitude t.steer.measured) 4200 / 1000 →
          (t.steer.measured = 0 → t.steer.kL = 1000 ∧ t.steer.kR = 1000) ∧
          (0 < t.steer.measured → t.steer.kL = 1000 + g ∧ t.steer.kR = 1000 - g) ∧
          (t.steer.measured < 0 → t.steer.kL = 1000 - g ∧ t.steer.kR = 1000 + g))) ∧
      ((s.sample .roadWheelAngle).state ≠ .valid →
        t.steer.state = .failed ∧ t.steer.failCause = some .steerFeedbackInvalid ∧ t.steer.measured = s.steer.measured ∧
        t.steer.target = s.steer.target ∧ t.steer.kL = 1000 ∧ t.steer.kR = 1000 ∧
        (t.fault .steerFeedbackInvalid).active = true)

/-- R97: the supply at a steering frame. With the flag clear, 200 ms below Supply Low (a role that is not VALID counts as below)
set it, raise STEER SUPPLY LOW and take NORMAL to RESERVE; with it set, 2000 ms at Supply Recover clear it with both supply faults
and take RESERVE to NORMAL; an interruption empties the stamp. R98: Reserve Strokes, and the accumulator low under a low supply,
which raises its fault, fails a servo in RESERVE and gives a FAILED one its cause if it was not reported before. R94: an error
above the limit starts Track Since, 500 ms of it Latch STEER TRACKING and fail the servo, and an error within the limit empties
it. R88, R89: the demand from the handwheel, or held, where Demand Source or FALLBACK says so. R86, R91, R95, R99: a FAILED servo
stays FAILED with Flow 0 and its Target at Measured, the first frame after a restart starts Target from Measured, and row 5 is
written for a new State. -/
def Obligations.SteeringSupplyAndTracking : Prop :=
  ∀ s : State, s.timers.steering ≠ none → ∃ t, exec .steeringFrame s = .next t ∧
    ∀ supply : Int, supply = (s.sample .steerSupply).value →
    ∀ low : Bool, low = (decide ((s.sample .accumulator).state ≠ .valid) ||
      decide ((s.sample .accumulator).value < s.active.steer.accumulatorMin)) →
    (s.steer.supplyLow = false →
      ((s.sample .steerSupply).state ≠ .valid ∨ supply < s.active.steer.supplyLow →
        ∀ since : Nat, since = s.steer.lowSince.getD s.now →
        (200 ≤ elapsed s.now since → t.steer.supplyLow = true ∧ t.steer.lowSince = none ∧
          (t.fault .steerSupplyLow).active = true) ∧
        (elapsed s.now since < 200 → t.steer.supplyLow = false ∧ t.steer.lowSince = some since ∧
          t.fault .steerSupplyLow = s.fault .steerSupplyLow ∧ t.fault .steerAccumulatorLow = s.fault .steerAccumulatorLow)) ∧
      ((s.sample .steerSupply).state = .valid → s.active.steer.supplyLow ≤ supply →
        t.steer.supplyLow = false ∧ t.steer.lowSince = none ∧ t.fault .steerSupplyLow = s.fault .steerSupplyLow ∧
        t.fault .steerAccumulatorLow = s.fault .steerAccumulatorLow)) ∧
    (s.steer.supplyLow = true →
      ((s.sample .steerSupply).state = .valid → s.active.steer.supplyRecover ≤ supply →
        ∀ since : Nat, since = s.steer.recoverSince.getD s.now →
        (2000 ≤ elapsed s.now since → t.steer.supplyLow = false ∧ t.steer.recoverSince = none ∧
          (t.fault .steerSupplyLow).active = false ∧ (t.fault .steerAccumulatorLow).active = false) ∧
        (elapsed s.now since < 2000 → t.steer.supplyLow = true ∧ t.steer.recoverSince = some since)) ∧
      ((s.sample .steerSupply).state ≠ .valid ∨ supply < s.active.steer.supplyRecover →
        t.steer.supplyLow = true ∧ t.steer.recoverSince = none)) ∧
    t.steer.reserveStrokes = (if low then 0
      else ((s.sample .accumulator).value - s.active.steer.accumulatorMin) / s.active.steer.pressurePerStroke) ∧
    (t.steer.supplyLow = true → (t.fault .steerAccumulatorLow).active = low) ∧
    (s.steer.state = .reserve ∨ (s.steer.state = .normal ∧ s.steer.supplyLow = false) →
      (s.sample .roadWheelAngle).state = .valid → t.steer.supplyLow = true → low = true →
      t.steer.state = .failed ∧ t.steer.failCause = some .steerAccumulatorLow) ∧
    (s.steer.state = .normal ∨ s.steer.state = .reserve → (s.sample .roadWheelAngle).state = .valid →
      t.steer.supplyLow = false ∨ low = false →
      (magnitude (t.steer.target - t.steer.measured) ≤ s.active.steer.trackErrorLimit → t.steer.trackSince = none ∧
        t.steer.state = (if t.steer.supplyLow = s.steer.supplyLow then s.steer.state
          else if t.steer.supplyLow then .reserve else .normal) ∧ t.fault .steerTracking = s.fault .steerTracking) ∧
      (s.active.steer.trackErrorLimit < magnitude (t.steer.target - t.steer.measured) →
        ∀ since : Nat, since = s.steer.trackSince.getD s.now →
        (elapsed s.now since < 500 → t.steer.trackSince = some since ∧
          t.steer.state = (if t.steer.supplyLow = s.steer.supplyLow then s.steer.state
            else if t.steer.supplyLow then .reserve else .normal) ∧ t.fault .steerTracking = s.fault .steerTracking) ∧
        (500 ≤ elapsed s.now since → t.steer.state = .failed ∧ t.steer.failCause = some .steerTracking ∧
          t.steer.trackSince = none ∧ (t.fault .steerTracking).active = false ∧
          ((s.fault .steerTracking).active = false → (t.fault .steerTracking).latched = true)))) ∧
    (s.active.steer.demandSource = .slate → s.drive.mode ≠ .fallback →
      t.steer.source = .slate ∧ t.steer.sourceDemand = s.exchange.slate.steering) ∧
    (s.active.steer.demandSource ≠ .slate ∨ s.drive.mode = .fallback →
      ((s.sample .handwheelAngle).state = .valid → t.steer.source = .handwheel ∧
        t.steer.sourceDemand = clamp (-s.active.steer.maxLock) s.active.steer.maxLock
          ((s.sample .handwheelAngle).value * s.active.steer.handwheelRatio / 100)) ∧
      ((s.sample .handwheelAngle).state ≠ .valid →
        t.steer.source = .held ∧ t.steer.sourceDemand = s.steer.sourceDemand)) ∧
    (s.steer.state = .failed → t.steer.state = .failed ∧ t.steer.flow = 0 ∧ t.link.outgoing.flow = 0 ∧
      ((s.sample .roadWheelAngle).state = .valid → t.steer.target = t.steer.measured ∧
        (t.steer.supplyLow = true → low = true → (s.fault .steerAccumulatorLow).active = false →
          t.steer.failCause = some .steerAccumulatorLow) ∧
        (t.steer.supplyLow = false ∨ low = false ∨ (s.fault .steerAccumulatorLow).active = true →
          t.steer.failCause = s.steer.failCause)) ∧
      ((s.sample .roadWheelAngle).state ≠ .valid → (s.fault .steerFeedbackInvalid).active = false →
        t.steer.failCause = some .steerFeedbackInvalid)) ∧
    (s.steer.first = true → (s.sample .roadWheelAngle).state = .valid → t.steer.state = .normal ∨ t.steer.state = .reserve →
      t.steer.target = moveToward t.steer.step t.steer.measured t.steer.limitedDemand) ∧
    t.steer.first = false ∧ t.steer.state ≠ .off ∧ t.steer.rowFor = some t.steer.state ∧
    (s.drive.mode ≠ .unconfigured → s.steer.rowFor ≠ some t.steer.state →
      ((t.row .steerReserveSpeed).active = true ↔ t.steer.state ≠ .normal) ∧
      (t.steer.state ≠ .normal → (t.row .steerReserveSpeed).value = 0))

/-! ## The Load Monitor (R107 to R119) -/

/-- R108, R116, R118, R119: a pass of the acting Load Monitor. Four VALID struts give the sprung mass; an EMPTY truck that is
confirmed empty uses payload 0 and has class NORMAL; a change of class writes rows 6 and 9 and reports both class faults. -/
def Obligations.LoadPassWeighsAndClasses : Prop :=
  ∀ s : State, s.load.acting = true → s.drive.mode ≠ .unconfigured → ∀ t, t = s.loadPass →
    ((∀ r ∈ strutRoles, (s.sample r).state = .valid) → (t.fault .strutSensorInvalid).active = false ∧
      t.load.sprungMass = ((s.sample .strutFL).value * s.active.load.areaFL +
        (s.sample .strutFR).value * s.active.load.areaFR + (s.sample .strutRL).value * s.active.load.areaRL +
        (s.sample .strutRR).value * s.active.load.areaRR) / 9810) ∧
    ((∃ r ∈ strutRoles, (s.sample r).state ≠ .valid) →
      (t.fault .strutSensorInvalid).active = true ∧ t.load.sprungMass = s.load.sprungMass) ∧
    (t.load.cycle = .empty → t.load.emptyConfirmed = true → (∀ r ∈ strutRoles, (s.sample r).state = .valid) →
      t.load.payloadUsed = 0 ∧ t.load.unweighed = false) ∧
    (t.load.cycle = .empty → t.load.loadClass = .normal) ∧
    t.grid.grossMass = some (s.active.load.emptyMass + t.load.payloadUsed) ∧
    t.steer.given = some (t.load.payloadUsed, s.active.load.ratedPayload) ∧
    (t.load.loadClass ≠ s.load.loadClass →
      ((t.row .loadClassSpeed).active = true ↔ t.load.loadClass ≠ .normal) ∧
      ((t.row .loadClassPropel).active = true ↔ t.load.loadClass = .class2) ∧
      (t.load.loadClass = .class1 → (t.row .loadClassSpeed).value = clamp 0 900 s.active.load.class1Speed) ∧
      (t.load.loadClass = .class2 → (t.row .loadClassSpeed).value = clamp 0 900 s.active.load.class2Speed ∧
        (t.row .loadClassPropel).value = clamp 0 1000 s.active.load.class2PropelCap) ∧
      ((t.fault .overloadClass1).active = true ↔ t.load.loadClass = .class1) ∧
      ((t.fault .overloadClass2).active = true ↔ t.load.loadClass = .class2))

/-- R108, R111 to R116, R118: the load cycle at a pass of the acting Load Monitor. Live Payload follows the Sprung Mass; the band
and move runs are timed, and a change of Cycle State empties both; a run of 2 s at or above Empty Band takes EMPTY and DUMPING to
LOADING with an empty Weigh Buffer, one below it confirms EMPTY, ends LOADING and ends the cycle in DUMPING; a move of 5 s latches
the payload and takes LOADING to HAULING, also with the body raised (the model's choice between R114 and R115, assumption log 75);
a raised body takes HAULING to DUMPING. A pass in LOADING appends its sample, at most 16. Payload Used, the ratio and the class
follow the Cycle State. R110: a TARE LOAD aborts with the first of MOVED, SENSOR and LOAD CYCLE, and otherwise takes the pass's
mass. -/
def Obligations.LoadCycle : Prop :=
  ∀ s : State, s.load.acting = true → ∀ t, t = s.loadPass → ∀ c, c = s.active.load →
    t.load.livePayload = (if s.load.tareSet then t.load.sprungMass - s.load.tare else 0) ∧
    (t.load.cycle ≠ s.load.cycle → t.load.band = none ∧ t.load.moveSince = none) ∧
    (t.load.cycle = s.load.cycle →
      (¬ weighs s → t.load.band = none) ∧
      (weighs s → ∀ since side, s.load.band = some (since, side) →
        t.load.band = some (if side = sampleSide s then since else s.now, sampleSide s)) ∧
      (weighs s → s.load.band = none → t.load.band = some (s.now, sampleSide s)) ∧
      (s.load.cycle = .loading → t.load.moveSince = if 30 ≤ s.speed.v then some (s.load.moveSince.getD s.now) else none)) ∧
    (s.load.cycle = .empty →
      (bandRun s .atOrAbove → t.load.cycle = .loading ∧ t.load.weighBuffer = []) ∧
      (¬ bandRun s .atOrAbove → t.load.cycle = .empty ∧ t.load.weighBuffer = s.load.weighBuffer) ∧
      (bandRun s .below → t.load.emptyConfirmed = true) ∧
      (¬ bandRun s .below → s.desk.tare = none → t.load.emptyConfirmed = s.load.emptyConfirmed)) ∧
    (s.load.cycle = .loading → bufferAfter s t.load.weighBuffer ∧
      (bandRun s .below → t.load.cycle = .empty ∧ t.load.emptyConfirmed = true ∧
        t.load.latchedPayload = s.load.latchedPayload) ∧
      (moveRun s → t.load.cycle = .hauling ∧
        (s.load.weighBuffer = [] → t.load.latchedPayload = c.ratedPayload ∧ t.load.latchedUnweighed = true) ∧
        (s.load.weighBuffer ≠ [] → t.load.latchedUnweighed = false ∧
          t.load.latchedPayload = max 0 (s.load.weighBuffer.sum / s.load.weighBuffer.length))) ∧
      (¬ bandRun s .below → ¬ moveRun s → t.load.cycle = .loading)) ∧
    (s.load.cycle = .hauling → t.load.weighBuffer = s.load.weighBuffer ∧
      t.load.cycle = (if s.exchange.slate.bodyRaised then .dumping else .hauling)) ∧
    (s.load.cycle = .dumping →
      (bandRun s .below → t.load.cycle = .empty ∧ t.load.cycleCount = min 65535 (s.load.cycleCount + 1) ∧
        t.load.latchedPayload = 0 ∧ t.load.latchedUnweighed = false ∧ t.load.emptyConfirmed = true) ∧
      (bandRun s .atOrAbove → t.load.cycle = .loading ∧ t.load.weighBuffer = [] ∧
        t.load.latchedPayload = s.load.latchedPayload) ∧
      (¬ bandRun s .below → ¬ bandRun s .atOrAbove → t.load.cycle = .dumping)) ∧
    (¬ (s.load.cycle = .dumping ∧ bandRun s .below) → t.load.cycleCount = s.load.cycleCount) ∧
    (t.load.cycle = .hauling ∨ t.load.cycle = .dumping →
      t.load.payloadUsed = t.load.latchedPayload ∧ t.load.unweighed = t.load.latchedUnweighed) ∧
    (t.load.cycle = .empty ∨ t.load.cycle = .loading → ¬ strutsValid s →
      t.load.payloadUsed = c.ratedPayload ∧ t.load.unweighed = true) ∧
    (t.load.cycle = .empty → strutsValid s → t.load.emptyConfirmed = false →
      t.load.payloadUsed = c.ratedPayload ∧ t.load.unweighed = true) ∧
    (t.load.cycle = .loading → strutsValid s →
      (t.load.weighBuffer = [] → t.load.payloadUsed = c.ratedPayload ∧ t.load.unweighed = true) ∧
      (t.load.weighBuffer ≠ [] → t.load.unweighed = false ∧
        t.load.payloadUsed = max 0 (t.load.weighBuffer.sum / t.load.weighBuffer.length))) ∧
    t.load.ratio = t.load.payloadUsed * 1000 / c.ratedPayload ∧
    (t.load.cycle = .loading → t.load.loadClass = classFromRatio c t.load.unweighed t.load.ratio) ∧
    (t.load.cycle = .hauling →
      (s.load.cycle = .loading ∨ s.load.afterApply = true →
        t.load.loadClass = classFromRatio c t.load.unweighed t.load.ratio) ∧
      (s.load.cycle = .hauling → s.load.afterApply = false → t.load.loadClass = s.load.loadClass)) ∧
    (t.load.cycle = .dumping → t.load.loadClass = s.load.loadClass) ∧
    (∀ o, s.desk.tare = some o →
      (5 ≤ s.speed.v → t.desk.tare = none ∧ t.load.tareProgress = none ∧ t.load.tare = s.load.tare ∧
        t.load.tareSet = s.load.tareSet ∧ slotShows t o.slot 8 7 0 0 0 s.now) ∧
      (s.speed.v < 5 → ¬ strutsValid s → t.desk.tare = none ∧ t.load.tareProgress = none ∧ t.load.tare = s.load.tare ∧
        t.load.tareSet = s.load.tareSet ∧ slotShows t o.slot 8 9 0 0 0 s.now) ∧
      (s.speed.v < 5 → strutsValid s → s.exchange.slate.bodyRaised = true ∨ s.load.cycle ≠ .empty →
        t.desk.tare = none ∧ t.load.tareProgress = none ∧ t.load.tare = s.load.tare ∧
        t.load.tareSet = s.load.tareSet ∧ slotShows t o.slot 8 10 0 0 0 s.now) ∧
      (s.speed.v < 5 → strutsValid s → s.exchange.slate.bodyRaised = false → s.load.cycle = .empty →
        ∀ p, s.load.tareProgress = some p → p.1 < 15 →
        t.load.tareProgress = some (p.1 + 1, p.2 + strutMass s) ∧ t.desk.tare = some o ∧ t.load.tare = s.load.tare))

/-! ## The Scan Unit (R150 to R155) -/

/-- R152: the code of a conversion, in proportion to the full scale of the entry's range, 0 below 0 V and 16383 at full scale and
above, taken as the floor of 16384 parts in between (the model's choice, assumption log 45). R152, R153, R154: a strobe makes a
conversion begin and starts its timer anew. A completion with as many conversions as the entry averages, or more, of which it
takes that many (log 45), which is not the last of the list, writes the entry's role: SATURATED keeps Value and Last Read, an
engineering value outside the limits is kept as Last Read only, and one within them is VALID; the Scan Index advances; and SCAN
ROLE RANGE is reported for a role that goes out of range, with its number as Detail also while the record is Active, and absent
with none out. Without a strobe in progress, or with fewer conversions, nothing changes, and with the timer stopped no strobe
falls (the model's choice, log 3). R153, R155, R108, R191: the completion of the list's last strobe returns the Scan Index to 0,
counts a pass, publishes it, and gives the scan-pass event: the Load Monitor runs its pass on the state that the sample leaves,
the APPLY SETTINGS that waits completes and the steering timer that waits starts. R162: the pass number, the Scan Index and the
out-of-range set are published at each completion and not at the strobe's beginning (the model's reading of "at each strobe",
assumption log 77). -/
def Obligations.StrobesAndScanPass : Prop :=
  (∀ microvolts : Int, ∀ range : Nat, ∀ full : Int,
    full = (match range with
      | 0 => 625000
      | 1 => 1250000
      | 2 => 2500000
      | _ => 5000000) →
    (microvolts ≤ 0 → converterCode range microvolts = 0) ∧ (full ≤ microvolts → converterCode range microvolts = 16383) ∧
    (0 ≤ microvolts → microvolts < full →
      ((converterCode range microvolts).toNat : Int) = 16384 * microvolts / full)) ∧
  (∀ (e : ScanEntry) (conversions : List Conversion), e.averaging ≤ conversions.length →
    (e.codes conversions).length = e.averaging ∧
    ∀ k, k < e.averaging → (e.codes conversions)[k]? =
      (conversions[k]?).map (fun x => converterCode e.range (x.toList.getD e.input 0))) ∧
  ((∀ s : State, s.timers.strobe = none → exec .strobe s = .next s) ∧
  (∀ s : State, s.timers.strobe ≠ none → exec .strobe s = .next { s with
    scan := { s.scan with busy := true }
    timers := { s.timers with strobe := some (s.us + s.active.scan.strobePeriod) } }) ∧
  (∀ (s : State) (conversions : List Conversion), s.scan.busy = false →
    exec (.strobeCompletion conversions) s = .next s) ∧
  (∀ (s : State) (conversions : List Conversion), ∀ c, s.settings = some c → ∀ e, c.scan.entries[s.scan.index]? = some e →
    conversions.length < e.averaging → exec (.strobeCompletion conversions) s = .next s) ∧
  ∀ s : State, ∀ c, s.settings = some c → ∀ e, c.scan.entries[s.scan.index]? = some e →
    ∀ conversions : List Conversion, s.scan.index + 1 < c.scan.entries.length → s.scan.busy = true →
    e.averaging ≤ conversions.length → 0 < e.averaging →
    ∃ t, exec (.strobeCompletion conversions) s = .next t ∧
      t = { s with
        ram := t.ram, window := t.window, faults := t.faults
        published := { s.published with
          passNumber := s.scan.passNumber, scanIndex := s.scan.index + 1, outSet := t.published.outSet }
        scan := { s.scan with table := t.scan.table, index := s.scan.index + 1, busy := false } } ∧
      (∀ r, r ≠ e.role → t.sample r = s.sample r) ∧ (∀ f, f ≠ .scanRoleRange → t.fault f = s.fault f) ∧
      keepsWords s t (faultWord .scanRoleRange) ∧
      sampledAs (s.sample e.role) (t.sample e.role) e (c.scan.limitsOf e.role) (e.codes conversions) ∧
      (∀ r : Role, t.published.outSet.getLsbD r.index = decide ((t.sample r).state = .outOfRange)) ∧
      rangeReported s t e.role) ∧
  (∀ s : State, ∀ c, s.settings = some c → ∀ e, c.scan.entries[s.scan.index]? = some e →
    ∀ conversions : List Conversion, c.scan.entries.length = s.scan.index + 1 → s.scan.busy = true →
    e.averaging ≤ conversions.length → 0 < e.averaging →
    ∃ t, exec (.strobeCompletion conversions) s = .next t ∧ t.scan.index = 0 ∧ t.scan.busy = false ∧
      t.scan.passNumber = (s.scan.passNumber + 1) % 65536 ∧ t.published.passNumber = t.scan.passNumber ∧
      (∀ r, r ≠ e.role → t.sample r = s.sample r) ∧
      sampledAs (s.sample e.role) (t.sample e.role) e (c.scan.limitsOf e.role) (e.codes conversions) ∧
      rangeReported s t e.role ∧
      (∀ u, u = scanned s e.role (t.sample e.role) → t.faults = u.loadPass.faults ∧ t.steer.given = u.loadPass.steer.given ∧
        t.load = { u.loadPass.load with acting := t.load.acting } ∧
        t.grid.grossMass = u.loadPass.grid.grossMass ∧ t.desk.tare = u.loadPass.desk.tare ∧
        (s.desk.apply = none → t.load = u.loadPass.load ∧ t.rows = u.loadPass.rows ∧ t.ram = u.loadPass.ram ∧
          t.grid = u.loadPass.grid)) ∧
      t.steer.awaitPass = false ∧ (s.steer.awaitPass = true → t.timers.steering = some (s.us + 5000)) ∧
      (∀ o, s.desk.apply = some o → t.desk.apply = none ∧ t.readWord (slotBase o.slot) = 3 ∧
        (s.drive.mode = .unconfigured → t.drive.mode = .disarmed)) ∧
      (s.desk.apply = none → t.drive = s.drive ∧ t.link = s.link ∧ t.supervision = s.supervision))

/-! ## The Speed Timers (R158 to R160) -/

/-- R158, R160: a speed edge. One that comes less than 25 µs after the last is a glitch: it is counted and nothing else changes. A
first edge starts the channel with its speed kept, RUNNING unless it is FAILED; a further edge appends its period to the last four
and gives the speed of their mean, at most 900, and a FAILED channel is RUNNING again, its sensor fault absent, at the edge that
brings its list to four. Either starts the silence timer anew, and R159: one that leaves a front channel above 30 makes a SILENT
partner FAILED with its sensor fault. R160: the ground speed and its mark follow the front channels that are usable, and REFERENCE
DEGRADED the mark, after an edge and after a silence event. R159, R160: the silence event of a channel whose deadline has come: no
edge and no period is left and its speed is 0; a front channel that was above 30 is FAILED with its sensor fault, one that was
FAILED already stays FAILED, and any other channel is SILENT. Before the deadline, or with the timer stopped, there is no such
event, and the command changes nothing: the model's choice (assumption log 3). -/
def Obligations.SpeedEdgeAndSilence : Prop :=
  (∀ (c : Channel) (s : State),
    (∀ last, (s.channel c).lastEdge = some last → s.us - last < 25 →
      ∃ t, exec (.speedEdge c) s = .next t ∧ t = { s with speed := { s.speed with channels := t.speed.channels } } ∧
        t.channel c = { s.channel c with
          glitches := if 65535 < (s.channel c).glitches + 1 then 65535 else (s.channel c).glitches + 1 } ∧
        (∀ d, d ≠ c → t.channel d = s.channel d)) ∧
    ((∀ last, (s.channel c).lastEdge = some last → 25 ≤ s.us - last) →
      ∃ t, exec (.speedEdge c) s = .next t ∧
        t = { s with
          ram := t.ram, window := t.window, faults := t.faults, speed := t.speed
          timers := { s.timers with silence := t.timers.silence } } ∧
        (t.channel c).lastEdge = some s.us ∧ t.timers.silence[c.index] = some (s.us + 250000) ∧
        (∀ d : Channel, d ≠ c → t.timers.silence[d.index] = s.timers.silence[d.index]) ∧
        (∀ d, d ≠ c → t.channel d = s.channel d ∨ t.channel d = { s.channel d with state := .failed }) ∧
        (∀ f, f ∉ speedCodes → t.fault f = s.fault f) ∧ keepsWords s t (fun a => ∃ f ∈ speedCodes, faultWord f a) ∧
        (t.channel c).glitches = (s.channel c).glitches ∧
        ((s.channel c).lastEdge = none → (t.channel c).speed = (s.channel c).speed ∧
          (t.channel c).periods = (s.channel c).periods ∧
          (t.channel c).state = (if (s.channel c).state = .failed then .failed else .running)) ∧
        (∀ last, (s.channel c).lastEdge = some last →
          (t.channel c).periods = (if 4 ≤ (s.channel c).periods.length then (s.channel c).periods.drop 1
            else (s.channel c).periods) ++ [s.us - last] ∧
          (t.channel c).speed = min 900 (s.active.speed.k c / ((t.channel c).periods.sum / (t.channel c).periods.length)) ∧
          ((s.channel c).state ≠ .failed → (t.channel c).state = .running) ∧
          ((s.channel c).state = .failed →
            (t.channel c).state = if (t.channel c).periods.length < 4 then .failed else .running)) ∧
        (c = .rearL ∨ c = .rearR → (∀ d, d ≠ c → t.channel d = s.channel d) ∧
          t.fault .speedSensorFrontL = s.fault .speedSensorFrontL ∧ t.fault .speedSensorFrontR = s.fault .speedSensorFrontR) ∧
        (∀ o f, partnerOf c o f →
          (30 < (t.channel c).speed → (s.channel o).state = .silent →
            t.channel o = { s.channel o with state := .failed } ∧ (t.fault f).active = true) ∧
          ((t.channel c).speed ≤ 30 ∨ (s.channel o).state ≠ .silent → t.channel o = s.channel o ∧ t.fault f = s.fault f)) ∧
        (∀ o f, partnerOf o c f →
          ((s.channel c).state = .failed → (t.channel c).state = .running →
            (t.fault f).active = false ∧ (t.fault f).latched = (s.fault f).latched) ∧
          ((s.channel c).state ≠ .failed ∨ (t.channel c).state ≠ .running → t.fault f = s.fault f)) ∧
        referenceFollows s t)) ∧
  (∀ (c : Channel) (s : State),
    ((∀ d, s.timers.silence[c.index] = some d → s.us < d) → exec (.silenceEvent c) s = .next s) ∧
    (∀ d, s.timers.silence[c.index] = some d → d ≤ s.us → ∃ t, exec (.silenceEvent c) s = .next t ∧
      t = { s with
        ram := t.ram, window := t.window, faults := t.faults, speed := t.speed
        timers := { s.timers with silence := t.timers.silence } } ∧
      t.timers.silence[c.index] = none ∧ (t.channel c).speed = 0 ∧ (t.channel c).periods = [] ∧
      (t.channel c).lastEdge = none ∧ (t.channel c).glitches = (s.channel c).glitches ∧
      (∀ x, x ≠ c → t.channel x = s.channel x) ∧ (∀ f, f ∉ speedCodes → t.fault f = s.fault f) ∧
      keepsWords s t (fun a => ∃ f ∈ speedCodes, faultWord f a) ∧
      (c = .rearL ∨ c = .rearR → (t.channel c).state = .silent) ∧
      (c = .frontL ∨ c = .frontR → (s.channel c).state ≠ .failed → (s.channel c).speed ≤ 30 →
        (t.channel c).state = .silent) ∧
      (c = .frontL ∨ c = .frontR → 30 < (s.channel c).speed ∨ (s.channel c).state = .failed →
        (t.channel c).state = .failed) ∧
      (c = .frontL → 30 < (s.channel c).speed → (s.channel c).state ≠ .failed →
        (t.fault .speedSensorFrontL).active = true) ∧
      (c = .frontR → 30 < (s.channel c).speed → (s.channel c).state ≠ .failed →
        (t.fault .speedSensorFrontR).active = true) ∧ referenceFollows s t))

/-! ## The Supervision Monitor (R164 to R169) -/

/-- R164, R165: what a heartbeat advance does where it fails nothing, and the W_min expiry. In LONG WINDOW it starts an EARLY ZONE
without a good advance; in VALID ZONE it is a good advance; with the window timer stopped it is ignored. At W_min EARLY ZONE
becomes VALID ZONE with Window Start kept. An expiry that the state of the window or its stopped timer rules out changes nothing,
which is the model's choice (assumption log 3). -/
def Obligations.WindowExpiriesAndAdvances : Prop :=
  ((∀ s : State, s.readWord 0 = s.readWord 10 → s.exchange.lastStamp ≠ some (s.readWord 0) →
    (s.readWord 1).toNat ≠ s.exchange.slate.heartbeat → ∃ t, exec .slatePickUp s = .next t ∧
      (s.supervision.running = false → t.supervision = s.supervision ∧ t.drive = s.drive ∧ t.faults = s.faults) ∧
      (s.supervision.running = true → s.supervision.window ≠ .earlyZone →
        t.supervision = { s.supervision with
          window := .earlyZone, windowStart := s.now
          goodCount :=
            if s.supervision.window = .validZone then
              (if 255 < s.supervision.goodCount + 1 then 255 else s.supervision.goodCount + 1)
            else s.supervision.goodCount } ∧
        t.timers.longWindow = none ∧ t.timers.wMin = some (s.us + 1000 * s.inForce.supervision.wMin) ∧
        t.timers.wMax = some (s.us + 1000 * s.inForce.supervision.wMax) ∧ t.drive = s.drive ∧ t.faults = s.faults ∧
        t.window = s.window ∧ t.ram = s.ram)) ∧
  (∀ s : State, s.supervision.running = true → s.supervision.window = .earlyZone → ∃ t, exec .wMinExpiry s = .next t ∧
    t = { s with
      supervision := { s.supervision with window := .validZone }, timers := { s.timers with wMin := none }
      published := t.published }) ∧
  (∀ s : State, s.supervision.running = false ∨ s.supervision.window ≠ .earlyZone → exec .wMinExpiry s = .next s)) ∧
  (∀ s : State,
    (s.supervision.running = false ∨ s.supervision.window ≠ .longWindow → exec .longWindowExpiry s = .next s) ∧
    (s.supervision.running = false ∨ s.supervision.window ≠ .validZone → exec .wMaxExpiry s = .next s))

/-- R166, R9, R168: a supervision failure: the Long Window in LONG WINDOW, W_max in VALID ZONE, or an advance in EARLY ZONE. The
record takes it, its code is Latched with Active clear, SUPERVISION is set, the Failure Count grows to at most 15, and the window
starts long. In ARMED Mode becomes FALLBACK with row 7 at the lower of v and Ls, the decay started and the commands and records
kept; in DISARMED, FALLBACK and TRIPPED Mode and row 7 stay. -/
def Obligations.SupervisionFailure : Prop :=
  ∀ (c : Instr) (kind : FailureKind) (s : State), failsSupervision s c kind → s.drive.mode ≠ .selfLoad →
    ∃ t, exec c s = .next t ∧ t.supervision.lastFailure = some kind ∧ t.supervision.lastFailureTime = s.now ∧
      t.supervision.failureCount =
        (if 15 < s.supervision.failureCount + 1 then 15 else s.supervision.failureCount + 1) ∧
      t.supervision.goodCount = 0 ∧ t.supervision.window = .longWindow ∧ t.supervision.windowStart = s.now ∧
      t.timers.longWindow = some (s.us + 1000 * s.inForce.supervision.longWindow) ∧ t.timers.wMin = none ∧
      t.timers.wMax = none ∧ t.window.attn.getLsbD 5 = true ∧
      (t.fault kind.latchCode).active = false ∧
      ((s.fault kind.latchCode).active = false → (t.fault kind.latchCode).latched = true) ∧
      (8 ≤ t.supervision.failureCount → (t.fault .fallbackLatched).active = true) ∧
      (∀ f, f ≠ kind.latchCode → f ≠ .fallbackLatched → t.fault f = s.fault f) ∧
      (s.drive.mode = .armed →
        t.drive = { s.drive with mode := .fallback, since := s.now } ∧ t.window.attn.getLsbD 2 = true ∧
        (t.row .fallbackSpeed).active = true ∧
        (t.row .fallbackSpeed).value = clamp 0 900 (min s.speed.v s.drive.limits.ls) ∧
        t.supervision.decayRunning = true ∧ t.timers.decay = some (s.us + 100000)) ∧
      (s.drive.mode ≠ .armed → t.drive = s.drive ∧ t.row .fallbackSpeed = s.row .fallbackSpeed ∧
        t.supervision.decayRunning = s.supervision.decayRunning ∧ t.timers.decay = s.timers.decay) ∧
      t.link = s.link ∧ t.selfLoad = s.selfLoad ∧ t.grid = s.grid ∧ t.steer = s.steer ∧ t.load = s.load ∧
      t.scan = s.scan ∧ t.speed = s.speed ∧ t.settings = s.settings ∧ t.desk = s.desk ∧
      keepsWords s t (fun a => faultWord kind.latchCode a ∨ faultWord .fallbackLatched a)

/-- R168, R169: a decay step lowers row 7 by Fallback Decel, to no less than 0, keeps it active, and changes nothing else; with
the decay stopped it does not happen. -/
def Obligations.DecayStepLowersRowSeven : Prop :=
  ∀ s : State, (s.supervision.decayRunning = false → exec .fallbackDecayStep s = .next s) ∧
    (s.supervision.decayRunning = true → s.drive.mode = .fallback → (s.row .fallbackSpeed).active = true →
      0 ≤ (s.row .fallbackSpeed).value → (s.row .fallbackSpeed).value ≤ 900 → 0 < s.inForce.supervision.fallbackDecel →
      ∃ t, exec .fallbackDecayStep s = .next t ∧
        t = { s with
          rows := t.rows, timers := { s.timers with decay := s.timers.decay.map (fun _ => s.us + 100000) } } ∧
        (∀ r, r ≠ .fallbackSpeed → t.row r = s.row r) ∧ (t.row .fallbackSpeed).active = true ∧
        (t.row .fallbackSpeed).value = max 0 ((s.row .fallbackSpeed).value - s.inForce.supervision.fallbackDecel) ∧
        ((s.row .fallbackSpeed).value = 0 → t.row .fallbackSpeed = s.row .fallbackSpeed) ∧
        (0 < (s.row .fallbackSpeed).value → (t.row .fallbackSpeed).since = s.now))

/-! ## The Wheel Link (R126 to R147) -/

/-- R127, R130: an exchange starts at the Poll List entry at Poll Index, with the station's counter one more: the whole frame is
formed from the outgoing record as it stands, with the kind's length, the mark on the header alone, its signed fields, ENABLE and
REVERSE in bits 0 and 1 of a torque command's flags and the blowers of banks A and B in those of the chopper's, the new counter
before the check and a data sum of 0; its header is being sent. Where one of R130's conditions fails nothing starts. R140, R141,
R131: the echo check at the end of a character-time. Where the echo that was due has come and matches, the next character begins,
or the reply window opens with the Reply Timer once the last echo has passed; a pending HALT goes ahead. The echo of the character
that ends may still be missing: it is awaited while the next character is sent (assumption log 22: one character-time). An echo
that is missing at its time, or that differs, disables the transmitter, abandons the exchange without moving Poll Index, clears
HALT Pending, and Latches LINK ECHO without Active, with the station as Detail; in ARMED and FALLBACK that is a trip. With no
character being sent and none awaited there is no check, the model's choice (log 3). -/
def Obligations.EchoCheck : Prop :=
  (∀ s : State,
    (∀ n, s.pollList[s.link.pollIndex]? = some n → linkIsFree s →
      ∀ x : Nat, x = ((s.station n).counter + 1) % 256 →
      ∀ first rest, commandFrame s.link.outgoing n x = first :: rest → ∃ t, exec .exchangeStart s = .next t ∧
        t = { s with link := { s.link with
          stations := t.link.stations, sending := some { station := n, char := first, echo := none }
          exchange := some { station := n, counter := x, toSend := rest, windowOpen := false, gotFirst := false
                             stray := false, judged := none, endsAfter := none } } } ∧
        t.station n = { s.station n with counter := x } ∧ (∀ m, m ≠ n → t.station m = s.station m)) ∧
    (s.pollList[s.link.pollIndex]? = none ∨ ¬ linkIsFree s → exec .exchangeStart s = .next s)) ∧
  (∀ (o : Outgoing) (n : StationId) (x : Nat), ∃ first rest, commandFrame o n x = first :: rest ∧
    first.mark = true ∧ (∀ c ∈ rest, c.mark = false) ∧ first.data = BitVec.ofNat 8 (16 * n.commandKind + n.number) ∧
    (first :: rest).length = (match n with
      | .inverterL => 6
      | .inverterR => 6
      | .chopper => 8
      | .valve => 5) ∧
    (n = .inverterL → signedChars ((rest.map (fun c => c.data)).getD 0 0) ((rest.map (fun c => c.data)).getD 1 0) =
      (BitVec.ofInt 16 o.left.torque).toInt) ∧
    (n = .inverterR → signedChars ((rest.map (fun c => c.data)).getD 0 0) ((rest.map (fun c => c.data)).getD 1 0) =
      (BitVec.ofInt 16 o.right.torque).toInt) ∧
    (n = .valve → signedChars ((rest.map (fun c => c.data)).getD 0 0) ((rest.map (fun c => c.data)).getD 1 0) =
      (BitVec.ofInt 16 o.flow).toInt) ∧
    (n = .chopper → signedChars ((rest.map (fun c : TxChar => c.data)).getD 0 0) ((rest.map (fun c => c.data)).getD 1 0) =
        (BitVec.ofInt 16 o.chopper.dutyA).toInt ∧
      signedChars ((rest.map (fun c : TxChar => c.data)).getD 2 0) ((rest.map (fun c => c.data)).getD 3 0) =
        (BitVec.ofInt 16 o.chopper.dutyB).toInt) ∧
    (∀ k, k < 8 →
      (n = .inverterL → ((rest.map (fun c : TxChar => c.data)).getD 2 0).getLsbD k =
        ((decide (k = 0) && o.left.enable) || (decide (k = 1) && o.left.reverse))) ∧
      (n = .inverterR → ((rest.map (fun c : TxChar => c.data)).getD 2 0).getLsbD k =
        ((decide (k = 0) && o.right.enable) || (decide (k = 1) && o.right.reverse))) ∧
      (n = .chopper → ((rest.map (fun c : TxChar => c.data)).getD 4 0).getLsbD k =
        ((decide (k = 0) && o.chopper.blowerA) || (decide (k = 1) && o.chopper.blowerB)))) ∧
    ((first :: rest).map (fun c => c.data.toNat)).sum % 256 = 0 ∧
    (rest[rest.length - 2]?).map (fun c => c.data) = some (BitVec.ofNat 8 x)) ∧
  (∀ s : State, s.link.sending = none → s.link.awaited = none → exec .echoCheck s = .next s) ∧
  (∀ s : State, ∀ b, echoPassed s b →
    (∀ e, b.exchange = some e → ∀ c more, e.toSend = c :: more → b.haltPending = false →
      exec .echoCheck s = .next { s with link := { b with
        sending := some { station := e.station, char := c, echo := none }
        exchange := some { e with toSend := more } } }) ∧
    (b.exchange = none ∨ (∃ e, b.exchange = some e ∧ e.toSend ≠ [] ∧ b.haltPending = true) ∨
        (∃ e, b.exchange = some e ∧ e.toSend = [] ∧ (b.awaited.isSome = true ∨ e.windowOpen = true)) →
      exec .echoCheck s = .next { s with link := b }) ∧
    (∀ e, b.exchange = some e → e.toSend = [] → b.awaited = none → e.windowOpen = false →
      exec .echoCheck s = .next { s with
        link := { b with exchange := some { e with windowOpen := true } }
        timers := { s.timers with reply := some (s.us + s.active.link.replyTimer) } })) ∧
  (∀ s : State, ∀ n, echoFails s n → ∃ t, exec .echoCheck s = .next t ∧ t.link.enabled = false ∧ t.link.sending = none ∧
    t.link.awaited = none ∧ t.link.exchange = none ∧ t.link.queue = [] ∧ t.link.haltPending = false ∧
    t.link.pollIndex = s.link.pollIndex ∧ t.link.stations = s.link.stations ∧ t.timers.reply = none ∧
    (t.fault .linkEcho).active = false ∧
    ((s.fault .linkEcho).active = false →
      (t.fault .linkEcho).latched = true ∧ (t.fault .linkEcho).detail = n.number ∧
      (s.drive.mode.drives = true → t.drive.mode = .tripped ∧ t.drive.tripCause = some .linkEcho)) ∧
    (s.drive.mode.drives = false → t.drive = s.drive ∧ t.link.outgoing = s.link.outgoing ∧ t.rows = s.rows) ∧
    (∀ c, c ≠ .linkEcho → t.fault c = s.fault c) ∧ t.grid = s.grid ∧ t.steer = s.steer ∧ t.load = s.load ∧
    t.selfLoad = s.selfLoad ∧ t.desk = s.desk ∧ keepsWords s t (faultWord .linkEcho))

/-- R131, R134, R135, R137: the ways an exchange ends, each outcome going to the polled station's record: MISSING at the Reply
Timer with no character in the window; STRAY, or the judgement of an overlong frame, at the end of a mute; and the judgement of
the frame assembled, at the end of an idle span or, with characters waiting then, in the drain of the last of those, which
FRAME_END counts (assumption log 60). Poll Index moves on. Where the outcome is bad and loses no station nothing else changes.
R138, R96, R180: a station that becomes LOST raises its fault, a trip but for station 4; the chopper aborts a test with cause
STATION; the valve fails a servo in NORMAL or RESERVE at once, and gives a FAILED one its cause. Where those events cannot be (no
exchange, a window that is not open or has its first character, a receiver that is not muted, a frame without characters, a span
noted already) nothing changes, which is the model's choice (assumption log 3). R136: the judgement of a frame that ended: GOOD
exactly when none of its conditions fails, and otherwise the first reason in the order of the table, where LENGTH is judged by the
kind that the header names (the model's reading, log 21). A frame of 12 characters is never GOOD. R137: a station's record after
an outcome: the total, the run that grows and the run that ends, Last Reason, and the State: ABSENT becomes PRESENT at a good
reply and never LOST, PRESENT becomes LOST at the third miss in a run, LOST becomes PRESENT at the fifth good reply in a run. -/
def Obligations.ExchangeEndsWithOutcome : Prop :=
  (∀ (c : Instr) (r : Reason) (s : State), ∀ e, s.link.exchange = some e → endsBadly s c e r →
    ∃ t, exec c s = .next t ∧ t.link.exchange = none ∧ t.link.queue = [] ∧ t.link.frame = Frame.empty ∧
      t.link.muted = false ∧ t.link.pollIndex = (s.link.pollIndex + 1) % max 1 s.pollList.length ∧
      t.timers.reply = none ∧ t.station e.station = (s.station e.station).judged (some r) ∧
      (∀ m, m ≠ e.station → t.station m = s.station m) ∧
      ((s.station e.station).state = .present → (t.station e.station).state = .lost →
        (t.fault e.station.lostCode).active = true ∧
        ((s.fault e.station.lostCode).active = false → s.drive.mode.drives = true → e.station ≠ .valve →
          s.selfLoad.phase = .idle → t.drive.mode = .tripped ∧ t.drive.tripCause = some e.station.lostCode) ∧
        (e.station = .chopper → s.drive.mode = .selfLoad → s.selfLoad.phase ≠ .idle → testAborted s t .station ∧
          t.link.outgoing.chopper = { s.link.outgoing.chopper with dutyA := 0, dutyB := 0 }) ∧
        (e.station = .valve →
          (s.steer.state = .off → t.steer = s.steer ∧ t.rows = s.rows) ∧
          (s.steer.state = .failed → t.steer = { s.steer with failCause := some .station4Lost } ∧ t.rows = s.rows) ∧
          (s.steer.state = .normal ∨ s.steer.state = .reserve → t.steer = { s.steer with
              state := .failed, failCause := some .station4Lost, trackSince := none, flow := 0, rowFor := some .failed } ∧
            t.link.outgoing.flow = 0 ∧ (s.drive.mode ≠ .unconfigured → (t.row .steerReserveSpeed).active = true ∧
              (t.row .steerReserveSpeed).value = 0)))) ∧
      ((s.station e.station).state ≠ .present ∨ (t.station e.station).state ≠ .lost →
        t = { s with link := t.link, timers := { s.timers with reply := none }, published := t.published } ∧
        t.link.outgoing = s.link.outgoing ∧ t.link.held = s.link.held ∧ t.link.sending = s.link.sending ∧
        t.link.haltPending = s.link.haltPending)) ∧
  (∀ s : State,
    (s.link.exchange = none → exec .replyTimerExpiry s = .next s ∧ exec .frameEnd s = .next s) ∧
    (∀ e, s.link.exchange = some e → e.windowOpen = false ∨ e.gotFirst = true → exec .replyTimerExpiry s = .next s) ∧
    (∀ e, s.link.exchange = some e → e.windowOpen = false ∨ e.gotFirst = false ∨ s.link.muted = true ∨
      (s.link.queue = [] ∧ s.link.frame.chars = []) ∨ (s.link.queue ≠ [] ∧ e.endsAfter ≠ none) →
      exec .frameEnd s = .next s) ∧
    (∀ e, s.link.exchange = some e → e.windowOpen = true → e.gotFirst = true → s.link.muted = false →
      s.link.queue ≠ [] → e.endsAfter = none → exec .frameEnd s = .next { s with
        link := { s.link with exchange := some { e with endsAfter := some s.link.queue.length } } }) ∧
    (s.link.muted = false → exec .muteEnd s = .next s)) ∧
  (∀ (f : Frame) (n : StationId) (counter : Nat) (long : Bool),
    (f.judge n counter long = none ↔ frameIsGood f n counter ∧ long = false) ∧
    (¬ frameHasHeader f → f.judge n counter long = some .noHeader) ∧
    (frameHasHeader f → f.overrun = true → f.judge n counter long = some .overrun) ∧
    (frameHasHeader f → f.overrun = false →
      (∃ c ∈ f.chars, c.noise = true ∨ c.framing = true ∨ c.parity = true) → f.judge n counter long = some .character) ∧
    (frameHasHeader f → f.overrun = false →
      (∀ c ∈ f.chars, c.noise = false ∧ c.framing = false ∧ c.parity = false) → (∃ c ∈ f.chars.drop 1, c.mark = true) →
      f.judge n counter long = some .mark) ∧
    (frameIsPlain f → lengthFails f long → f.judge n counter long = some .length) ∧
    (frameIsPlain f → ¬ lengthFails f long →
      (frameKind f ≠ n.commandKind + 8 → f.judge n counter long = some .kind) ∧
      (frameKind f = n.commandKind + 8 →
        ((f.chars.map (fun c : RxChar => c.data.toNat)).sum % 256 ≠ 0 → f.judge n counter long = some .check) ∧
        ((f.chars.map (fun c : RxChar => c.data.toNat)).sum % 256 = 0 →
          ((f.chars.map (fun c : RxChar => c.data)).getD (f.chars.length - 2) 0).toNat ≠ counter →
          f.judge n counter long = some .counter)))) ∧
  (frameLength 1 = some 6 ∧ frameLength 2 = some 8 ∧ frameLength 3 = some 5 ∧ frameLength 9 = some 9 ∧
    frameLength 10 = some 4 ∧ frameLength 11 = some 6 ∧
    ∀ k, k ≠ 1 → k ≠ 2 → k ≠ 3 → k ≠ 9 → k ≠ 10 → k ≠ 11 → frameLength k = none) ∧
  (∀ (x : Station) (r : Reason),
    (x.judged none).missRun = 0 ∧ (x.judged none).goodRun = min 255 (x.goodRun + 1) ∧
    (x.judged none).totals.good = min 65535 (x.totals.good + 1) ∧ (x.judged none).totals.bad = x.totals.bad ∧
    ((x.judged none).state = .lost ↔ x.state = .lost ∧ (x.judged none).goodRun < 5) ∧ (x.judged none).state ≠ .absent ∧
    (x.judged (some r)).goodRun = 0 ∧ (x.judged (some r)).missRun = min 255 (x.missRun + 1) ∧
    (x.judged (some r)).lastReason = some r ∧
    (x.judged (some r)).totals.bad[r.index] = min 65535 (x.totals.bad[r.index] + 1) ∧
    (∀ k : Fin 10, k ≠ r.index → (x.judged (some r)).totals.bad[k] = x.totals.bad[k]) ∧
    ((x.judged (some r)).state = .absent ↔ x.state = .absent) ∧
    ((x.judged (some r)).state = .present ↔ x.state = .present ∧ (x.judged (some r)).missRun < 3))

/-- R134, R137, R139, R133, R40: a GOOD frame that ends, at an idle span or in the drain that the span waits for (assumption log
60). Where the station is PRESENT after the update its fields and the time are stored and the assembler is held, for the 150 µs of
the model (assumption log 30: R133 gives a bound); where it stays LOST the fields are not taken. R127: the fields are those that
the frame's characters carry, a field of two characters low byte first and signed but for the motor speed, each flag at its bit. A
TORQUE REPLY with FAULT raises the inverter's fault, which trips ARMED and FALLBACK; one with FAULT clear reports it absent. R120
to R123: it updates the wheel's budget over the time since its last reply, at most 100 ms, with Held at Bmax and down to half of
it, the winding temperature with both caps and the overtemperature, and the wheel's two rows. R147: two speeds that disagree start
Mismatch Since and raise the fault after 1000 ms; two that agree end both. R48, R59: a CHOPPER REPLY gives Blower Running of both
banks. R93, R99: a VALVE REPLY reports its FAULT, which fails a servo in NORMAL or RESERVE. -/
def Obligations.GoodReplyAccepted : Prop :=
  ∀ (c : Instr) (s : State), ∀ e f, endsFrame s c e f → f.judge e.station e.counter false = none →
    ∃ reply t, replyCarries e.station (f.chars.map (fun x => x.data)) reply ∧ exec c s = .next t ∧ t.link.exchange = none ∧
      t.link.pollIndex = (s.link.pollIndex + 1) % max 1 s.pollList.length ∧
      (∀ m, m ≠ e.station → t.station m = s.station m) ∧
      ((s.station e.station).judged none |>.state) = (t.station e.station).state ∧
      ((t.station e.station).state = .lost →
        t.station e.station = (s.station e.station).judged none ∧ t.drive = s.drive ∧ t.faults = s.faults ∧
        t.load = s.load ∧ t.grid = s.grid ∧ t.steer = s.steer ∧ t.rows = s.rows ∧ t.link.held = s.link.held) ∧
      ((t.station e.station).state = .present →
        (t.station e.station).lastGood = some reply ∧
        (t.station e.station).lastAccepted = some s.now ∧ t.link.held = true ∧ t.timers.hold = some (s.us + 150) ∧
        (t.fault e.station.lostCode).active =
          (if (s.station e.station).state = .lost then false else (s.fault e.station.lostCode).active)) ∧
      (∀ w, e.station = wheelStation w → (t.station e.station).state = .present → ∀ r, reply = .torque r →
        (t.fault w.inverterCode).active = r.fault ∧
        (r.fault = true → (s.fault w.inverterCode).active = false → s.drive.mode.drives = true →
          t.drive.mode = .tripped ∧ t.drive.tripCause = some w.inverterCode) ∧
        (∀ lc : Int, lc = s.active.load.continuousRating →
          ∀ top : Int, top = (1000000 - lc * lc) * s.active.load.peakSeconds → 0 ≤ top →
          ∀ span : Int, span = (match (s.motor w).lastReply with
            | none => 0
            | some last => min 100 (elapsed s.now last)) →
          (t.motor w).budget = max 0 (min top ((s.motor w).budget + (r.torque * r.torque - lc * lc) * span / 1000)) ∧
          (t.motor w).lastReply = some s.now ∧
          ((s.motor w).held = false → ((t.motor w).held = true ↔ (t.motor w).budget = top)) ∧
          ((s.motor w).held = true → ((t.motor w).held = false ↔ (t.motor w).budget ≤ top / 2))) ∧
        ((s.motor w).held = false → (t.motor w).held = true → (t.fault w.heldCode).active = true) ∧
        ((s.motor w).held = true → (t.motor w).held = false → (t.fault w.heldCode).active = false) ∧
        ((t.motor w).held = (s.motor w).held → t.fault w.heldCode = s.fault w.heldCode) ∧
        (∀ temp : Int, temp = ((r.winding : Int) - 40) * 10 →
          (t.motor w).winding = some temp ∧
          ((t.fault w.overtempCode).active = true ↔ s.active.load.motorTrip ≤ temp) ∧
          (s.active.load.motorTrip ≤ temp → (t.motor w).propelCap = 0 ∧ (t.motor w).retardCap = 0) ∧
          (temp < s.active.load.motorTrip →
            (temp < s.active.load.motorWarn → (t.motor w).propelCap = 1000) ∧
            (s.active.load.motorWarn ≤ temp → (t.motor w).propelCap =
              1000 * (s.active.load.motorTrip - temp) / (s.active.load.motorTrip - s.active.load.motorWarn)) ∧
            (temp < s.active.load.motorRetardWarn → (t.motor w).retardCap = 1000) ∧
            (s.active.load.motorRetardWarn ≤ temp → (t.motor w).retardCap =
              1000 * (s.active.load.motorTrip - temp) / (s.active.load.motorTrip - s.active.load.motorRetardWarn)))) ∧
        (s.drive.mode ≠ .unconfigured →
          ∀ cap : Int, cap = (if (t.motor w).held then s.active.load.continuousRating else 1000) →
          ((t.row w.propelRow).active = true ↔ min cap (t.motor w).propelCap < 1000) ∧
          (t.row w.propelRow).value = (if min cap (t.motor w).propelCap < 1000
            then clamp 0 1000 (min cap (t.motor w).propelCap) else (s.row w.propelRow).value) ∧
          ((t.row w.retardRow).active = true ↔ min cap (t.motor w).retardCap < 1000) ∧
          (t.row w.retardRow).value = (if min cap (t.motor w).retardCap < 1000
            then clamp 0 1000 (min cap (t.motor w).retardCap) else (s.row w.retardRow).value)) ∧
        (∀ x, x ≠ w → t.motor x = s.motor x) ∧
        (∀ expected : Int, expected = r.rpm * s.active.link.speedPerRpm / 1000 →
          ∀ timer : Int, timer = (s.channel w.channel).speed →
          (10 * magnitude (timer - expected) ≤ max expected 50 →
            t.link.mismatch w = none ∧ (t.fault w.mismatchCode).active = false) ∧
          (max expected 50 < 10 * magnitude (timer - expected) →
            (s.link.mismatch w = none →
              t.link.mismatch w = some s.now ∧ t.fault w.mismatchCode = s.fault w.mismatchCode) ∧
            (∀ since, s.link.mismatch w = some since → t.link.mismatch w = some since ∧
              (elapsed s.now since < 1000 → t.fault w.mismatchCode = s.fault w.mismatchCode) ∧
              (1000 ≤ elapsed s.now since → (t.fault w.mismatchCode).active = true))))) ∧
      (e.station = .chopper → (t.station .chopper).state = .present → ∀ r, reply = .chopper r →
        t.grid = { s.grid with
          bankA := { s.grid.bankA with blowerRunning := r.blowerA }
          bankB := { s.grid.bankB with blowerRunning := r.blowerB } } ∧
        t.chopperReply = r ∧ t.drive = s.drive ∧ t.rows = s.rows ∧ t.steer = s.steer ∧ t.load = s.load ∧
        ∀ c, c ≠ .station3Lost → t.fault c = s.fault c) ∧
      (e.station = .valve → (t.station .valve).state = .present → ∀ r, reply = .valve r →
        t.valveReply = r ∧ (t.fault .valveFault).active = r.fault ∧ t.drive = s.drive ∧ t.grid = s.grid ∧ t.load = s.load ∧
        (r.fault = false ∨ s.steer.state = .off → t.steer = s.steer ∧ t.rows = s.rows) ∧
        (r.fault = true → s.steer.state = .failed → t.rows = s.rows ∧ t.steer = { s.steer with
          failCause := if (s.fault .valveFault).active then s.steer.failCause else some .valveFault }) ∧
        (r.fault = true → s.steer.state = .normal ∨ s.steer.state = .reserve → t.steer = { s.steer with
            state := .failed, failCause := some .valveFault, trackSince := none, flow := 0, rowFor := some .failed } ∧
          t.link.outgoing.flow = 0 ∧ (s.drive.mode ≠ .unconfigured → (t.row .steerReserveSpeed).active = true ∧
            (t.row .steerReserveSpeed).value = 0)))

/-- R126: the twelve bits of a sent character, with odd parity over its data, mark and parity bits, and the receiver's character:
FRAMING for a low stop bit, PARITY for an even count of ones; an undisturbed echo carries no flag. R126: after a low stop bit no
character is taken until the line has been high. R132, R133, R135: a received character, by the first case that applies: the echo
of the oldest sent character whose echo is still due; discarded during a HALT or a mute; into the queue within an open window, the
first of the window being matched and one that names another station starting a mute; lost with an overrun counted where the queue
is full; and unsolicited at any other time. A character while one is being sent whose echo has come, and none is due, changes
nothing: the model's choice (assumption log 22). R133, R134: a drain takes the oldest queued character into the frame under
assembly, counting down to the last one before an idle span that has passed (log 60); the twelfth character ends the frame with
its judgement, overlong, and mutes the receiver, after which a drained character belongs to no frame (the model's reading, log
23). While the assembler is held, or the queue is empty, nothing is drained. -/
def Obligations.ReceiverAndAssembler : Prop :=
  (∀ x : TxChar, x.bits.length = 12 ∧ x.bits.head? = some false ∧ (∀ k, k < 8 → x.bits[k + 1]? = some (x.data.getLsbD k)) ∧
    x.bits[9]? = some x.mark ∧ x.bits[11]? = some true ∧ (x.bits.filter (fun b => b)).length % 2 = 0 ∧
    receivedChar x.onLine = { data := x.data, mark := x.mark, noise := false, framing := false, parity := false } ∧
    x.onLine.stopBit = true) ∧
  (∀ c : LineChar, receivedChar c = { data := c.data, mark := c.mark, noise := c.noise, framing := !c.stopBit
                                      parity := decide ((onesCount c.data c.mark + c.parityBit.toNat) % 2 = 0) }) ∧
  (∀ (c : LineChar) (s : State), s.link.awaitHigh = true → c.afterHigh = false → exec (.characterReceived c) s = .next s) ∧
  (∀ (c : LineChar) (s : State), s.link.awaitHigh = false ∨ c.afterHigh = true →
    ∀ u, u = { s with link := { s.link with awaitHigh := !c.stopBit } } → ∀ r, r = receivedChar c →
    (∀ w, s.link.awaited = some w → w.echo = none → exec (.characterReceived c) s = .next { u with
      link := { u.link with awaited := some { w with echo := some r } } }) ∧
    ((∀ w, s.link.awaited = some w → w.echo ≠ none) →
      ∀ x, s.link.sending = some x → x.echo = none → exec (.characterReceived c) s = .next { u with
        link := { u.link with sending := some { x with echo := some r } } }) ∧
    (noEchoDue s.link → s.link.sending ≠ none → exec (.characterReceived c) s = .next u) ∧
    (noEchoDue s.link → s.link.sending = none →
      (s.link.halting = true ∨ s.link.muted = true → exec (.characterReceived c) s = .next u) ∧
      (s.link.halting = false → s.link.muted = false →
        (∀ e, s.link.exchange = some e → e.windowOpen = false) → exec (.characterReceived c) s = .next { u with
          link := { u.link with unsolicitedCount :=
            if 65535 < s.link.unsolicitedCount + 1 then 65535 else s.link.unsolicitedCount + 1 } }) ∧
      (s.link.halting = false → s.link.muted = false → ∀ e, s.link.exchange = some e → e.windowOpen = true →
        (e.gotFirst = true → s.link.queue.length < 16 → exec (.characterReceived c) s = .next { u with
          link := { u.link with queue := s.link.queue ++ [r] } }) ∧
        (e.gotFirst = true → 16 ≤ s.link.queue.length → ∃ t, exec (.characterReceived c) s = .next t ∧
          t = { u with published := { s.published with link := t.link }, link := { u.link with
            frame := { s.link.frame with overrun := true }
            overrunCount := if 65535 < s.link.overrunCount + 1 then 65535 else s.link.overrunCount + 1 } }) ∧
        (e.gotFirst = false → s.link.queue.length < 16 → ∃ t, exec (.characterReceived c) s = .next t ∧
          t = { u with
            timers := { s.timers with reply := none }
            link := { u.link with
              exchange := t.link.exchange, queue := t.link.queue, frame := t.link.frame, muted := t.link.muted } } ∧
          (r.noise = true ∨ r.framing = true ∨ r.parity = true →
            t.link.queue = s.link.queue ++ [r] ∧ t.link.frame = s.link.frame ∧ t.link.muted = false ∧
            t.link.exchange = some { e with gotFirst := true }) ∧
          (r.noise = false → r.framing = false → r.parity = false → r.mark = false →
            t.link.queue = s.link.queue ++ [r] ∧ t.link.frame = { s.link.frame with noHeader := true } ∧
            t.link.muted = false ∧ t.link.exchange = some { e with gotFirst := true }) ∧
          (r.noise = false → r.framing = false → r.parity = false → r.mark = true →
            (r.data.toNat % 16 = e.station.number → t.link.queue = s.link.queue ++ [r] ∧ t.link.frame = s.link.frame ∧
              t.link.muted = false ∧ t.link.exchange = some { e with gotFirst := true }) ∧
            (r.data.toNat % 16 ≠ e.station.number → t.link.queue = s.link.queue ∧ t.link.frame = s.link.frame ∧
              t.link.muted = true ∧ t.link.exchange = some { e with gotFirst := true, stray := true })))))) ∧
  (∀ s : State,
    (s.link.queue = [] ∨ s.link.held = true → exec .assemblerDrain s = .next s) ∧
    (∀ c rest, s.link.queue = c :: rest → s.link.held = false → s.link.muted = true →
      exec .assemblerDrain s = .next { s with link := { s.link with queue := rest } }) ∧
    (∀ c rest, s.link.queue = c :: rest → s.link.held = false → s.link.muted = false → ∀ e, s.link.exchange = some e →
      (s.link.frame.chars.length < 11 → e.endsAfter = none → exec .assemblerDrain s = .next { s with link := { s.link with
        queue := rest, frame := { s.link.frame with chars := s.link.frame.chars ++ [c] } } }) ∧
      (s.link.frame.chars.length < 11 → ∀ more, e.endsAfter = some (more + 2) →
        exec .assemblerDrain s = .next { s with link := { s.link with
          queue := rest, frame := { s.link.frame with chars := s.link.frame.chars ++ [c] }
          exchange := some { e with endsAfter := some (more + 1) } } }) ∧
      (s.link.frame.chars.length = 11 → exec .assemblerDrain s = .next { s with link := { s.link with
        queue := rest, frame := Frame.empty, muted := true
        exchange := some { e with
          judged := ({ s.link.frame with chars := s.link.frame.chars ++ [c] } : Frame).judge e.station e.counter true
          endsAfter := none } } })))

/-- R143: the line-stuck detector. A line found stuck while the D7 is not sending abandons the exchange without moving Poll Index
and raises LINE STUCK, which trips ARMED and FALLBACK; a line high again reports it absent. R144, R145, R186, R133: a pending HALT
begins when no character is being sent, abandons the exchange, and lasts 14 µs with its idle; at its end RUNCTL reads 0 and
polling resumes at once. That a mute ends with the abandoned exchange (log 63), and that the beginning of a HALT publishes nothing
(log 69), are the model's choices. The assembler's hold ends by itself. An event that cannot be (a line stuck already or not
stuck, no HALT pending or on the line) changes nothing, which is the model's choice (assumption log 3). -/
def Obligations.LineStuckAndHalt : Prop :=
  (∀ s : State,
    (s.link.stuck = true ∨ s.link.sending.isSome = true ∨ s.link.halting = true → exec .lineStuckDetected s = .next s) ∧
    (s.link.stuck = false → s.link.sending = none → s.link.halting = false → ∃ t, exec .lineStuckDetected s = .next t ∧
      t.link.stuck = true ∧ t.link.exchange = none ∧ t.link.pollIndex = s.link.pollIndex ∧
      t.link.stations = s.link.stations ∧ t.link.enabled = s.link.enabled ∧ (t.fault .lineStuck).active = true ∧
      ((s.fault .lineStuck).active = false → s.drive.mode.drives = true →
        t.drive.mode = .tripped ∧ t.drive.tripCause = some .lineStuck) ∧
      (s.drive.mode.drives = false → t.drive = s.drive ∧ t.rows = s.rows) ∧
      (∀ c, c ≠ .lineStuck → t.fault c = s.fault c) ∧ t.grid = s.grid ∧ t.selfLoad = s.selfLoad ∧
      keepsWords s t (faultWord .lineStuck)) ∧
    (s.link.stuck = false → exec .lineStuckCleared s = .next s) ∧
    (s.link.stuck = true → ∃ t, exec .lineStuckCleared s = .next t ∧
      t = { s with
        ram := t.ram, faults := t.faults, published := t.published, link := { s.link with stuck := false } } ∧
      (t.fault .lineStuck).active = false ∧ (∀ c, c ≠ .lineStuck → t.fault c = s.fault c) ∧
      keepsWords s t (faultWord .lineStuck))) ∧
  (∀ s : State,
    (s.link.haltPending = false ∨ s.link.sending.isSome = true → exec .haltStart s = .next s) ∧
    (s.link.haltPending = true → s.link.sending = none → ∃ t, exec .haltStart s = .next t ∧
      t = { s with
        timers := { s.timers with haltIdle := some (s.us + 14), reply := t.timers.reply }
        link := { s.link with
          haltPending := false, halting := true, exchange := none, queue := t.link.queue, frame := t.link.frame
          muted := t.link.muted } } ∧
      (s.link.exchange.isSome = true → t.link.queue = [] ∧ t.link.frame = Frame.empty ∧ t.link.muted = false ∧
        t.timers.reply = none)) ∧
    (s.link.halting = false → exec .haltEnd s = .next s) ∧
    (s.link.halting = true → ∃ t, exec .haltEnd s = .next t ∧ exec .exchangeStart { s with
      link := { s.link with halting := false }, timers := { s.timers with haltIdle := none }
      window := { s.window with runctl := 0 } } = .next t) ∧
    exec .assemblerHoldEnd s = .next { s with
      link := { s.link with held := false }, timers := { s.timers with hold := none } })

/-! ## The self-load test (R175 to R181) -/

/-- R175, R176, R178, R179: a phase end. LEAD-IN ends with BODY and step 0. BODY ends by closing its step and starting LEAD-OUT.
LEAD-OUT, or BODY without a Lead-out, ends the pattern: the order completes DONE with the three counts, the list is COMPLETE, the
duties 0, and Mode DISARMED. R176, R178, R198: a step end in BODY closes the step's record, in the list where fewer than 32 are in
it and counted as unrecorded otherwise, and the next step begins with its level, an empty sum and its own length; the last step
has no timer and ends with BODY. In IDLE no phase, and outside BODY no step, can end, and nothing happens: the model's choice
(assumption log 3). -/
def Obligations.PhaseEnd : Prop :=
  (∀ s : State,
    (s.selfLoad.phase = .idle → exec .phaseEnd s = .next s) ∧
    (s.selfLoad.phase = .leadIn → ∃ t, exec .phaseEnd s = .next t ∧
      t = { s with ram := t.ram, selfLoad := t.selfLoad, timers := t.timers, published := t.published } ∧
      t.selfLoad.phase = .body ∧ t.selfLoad.phaseStart = s.now ∧ t.selfLoad.stepIndex = 0 ∧ t.selfLoad.stepOpen = true ∧
      t.selfLoad.stepsRun = s.selfLoad.stepsRun + 1 ∧ t.selfLoad.sums = StepSums.empty ∧
      t.selfLoad.stepLevel = s.inForce.levels.getD 0 0 ∧ t.selfLoad.stepStart = s.now ∧
      t.selfLoad.stepEnd = (s.now + s.selfLoad.pattern.stepLength s.selfLoad.bodyLength 0) % stampRange ∧
      t.timers.step = (if s.selfLoad.pattern.isLastStep s.selfLoad.bodyLength 0 then none
        else some (s.us + 1000 * s.selfLoad.pattern.stepLength s.selfLoad.bodyLength 0)) ∧
      t.timers.phase = some (s.us + 1000 * s.selfLoad.bodyLength) ∧
      keepsWords s t (fun a => 0x0600 ≤ a ∧ a < 0x0610)) ∧
    (s.selfLoad.phase = .body → s.selfLoad.pattern.leadOut ≠ 0 → ∃ t, exec .phaseEnd s = .next t ∧
      t = { s with ram := t.ram, selfLoad := t.selfLoad, timers := t.timers, published := t.published } ∧
      (s.selfLoad.stepOpen = true → stepClosed s t false) ∧
      t.selfLoad.phase = .leadOut ∧ t.selfLoad.stepOpen = false ∧ t.selfLoad.stepsRun = s.selfLoad.stepsRun ∧
      t.timers.phase = some (s.us + 1000 * s.selfLoad.pattern.leadOut) ∧ keepsWords s t resultWord) ∧
    (s.selfLoad.phase = .leadOut ∨ (s.selfLoad.phase = .body ∧ s.selfLoad.pattern.leadOut = 0) →
      ∀ o, s.desk.start = some o → s.drive.mode = .selfLoad → ∃ t, exec .phaseEnd s = .next t ∧
        (s.selfLoad.phase = .body → s.selfLoad.stepOpen = true → stepClosed s t false) ∧
        t.selfLoad.phase = .idle ∧ t.drive.mode = .disarmed ∧ t.drive.since = s.now ∧
        t.desk = { s.desk with start := none } ∧
        t.link.outgoing.chopper = { s.link.outgoing.chopper with dutyA := 0, dutyB := 0 } ∧
        t.timers = { s.timers with phase := none, step := none } ∧ t.readWord 0x0600 = 2 ∧
        slotShows t o.slot 0 (wordOf t.selfLoad.header.stepsRun) (wordOf t.selfLoad.header.recorded)
          (wordOf t.selfLoad.header.unrecorded) 0 s.now ∧
        t.faults = s.faults ∧ t.rows = s.rows ∧ t.grid = s.grid ∧
        keepsWords s t (fun a => slotWord o.slot a ∨ resultWord a))) ∧
  (∀ (p : Pattern) (levels : List Int) (body i : Nat),
    (p.shape = .stair → p.level levels i = levels.getD i 0 ∧ p.isLastStep body i = decide (p.count ≤ i + 1) ∧
      (i + 1 < p.count → p.stepLength body i = p.stepDuration) ∧
      (i + 1 = p.count → p.stepLength body i = body - i * p.stepDuration)) ∧
    (p.shape = .cycle → p.level levels i = levels.getD (i % p.count) 0 ∧
      p.isLastStep body i = decide (body ≤ (i + 1) * p.stepDuration) ∧
      ((i + 1) * p.stepDuration ≤ body → p.stepLength body i = p.stepDuration) ∧
      (body < (i + 1) * p.stepDuration → p.stepLength body i = body - i * p.stepDuration))) ∧
  (∀ s : State,
    (s.selfLoad.phase ≠ .body ∨ s.selfLoad.stepOpen = false → exec .stepEnd s = .next s) ∧
    (s.selfLoad.phase = .body → s.selfLoad.stepOpen = true → ∃ t, exec .stepEnd s = .next t ∧
      t = { s with ram := t.ram, selfLoad := t.selfLoad, timers := t.timers, published := t.published } ∧
      stepClosed s t false ∧ t.selfLoad.phase = .body ∧ keepsWords s t resultWord ∧
      (s.selfLoad.pattern.isLastStep s.selfLoad.bodyLength s.selfLoad.stepIndex = true →
        t.selfLoad.stepOpen = false ∧ t.selfLoad.stepsRun = s.selfLoad.stepsRun ∧ t.timers = s.timers) ∧
      (s.selfLoad.pattern.isLastStep s.selfLoad.bodyLength s.selfLoad.stepIndex = false →
        ∀ next : Nat, next = s.selfLoad.stepIndex + 1 →
        t.selfLoad.stepIndex = next ∧ t.selfLoad.stepOpen = true ∧ t.selfLoad.stepStart = s.now ∧
        t.selfLoad.stepEnd = (s.now + s.selfLoad.pattern.stepLength s.selfLoad.bodyLength next) % stampRange ∧
        t.timers = { s.timers with
          step := if s.selfLoad.pattern.isLastStep s.selfLoad.bodyLength next then none
            else some (s.us + 1000 * s.selfLoad.pattern.stepLength s.selfLoad.bodyLength next) } ∧
        t.selfLoad.stepsRun = s.selfLoad.stepsRun + 1 ∧ t.selfLoad.header.stepsRun = s.selfLoad.stepsRun + 1 ∧
        t.selfLoad.sums = StepSums.empty ∧
        t.selfLoad.stepLevel = s.selfLoad.pattern.level s.inForce.levels next)))

/-- R72, R177, R180, R181, R63, R67: a DC-link frame of a test, whatever the state of the voltage role, on the Stages the frame
settles, where OV Persist is not reached. The first frame condition that holds, of STATION, BANK TRIP, MOVED and UNPARKED, aborts
the test with its cause; where none holds the test goes on. In BODY a selected bank is given the floored duty of its level, at
most 1000, and 0 otherwise; a bank that is available takes it within its cap, 1000 while HIGH, entered in this frame or before,
and 0 while the voltage is NEVER; one that is not takes 0. The VALID readings are added to the step's sums, D is held at 0 and
station 3's record carries the duties. R68, R180: in HIGH at OV Persist the frame raises DC LINK OVERVOLTAGE and aborts with
OVERVOLTAGE. The model's choices: a frame that aborts in HIGH still forces 1000, between R67 and R72 (assumption log 56); OV
Persist may end in a frame whose voltage is not VALID (log 31) and not in one that ends HIGH (log 67); V is kept in NEVER (log
61); a frame of BODY whose condition aborts the test adds no reading to the step it closes (log 55). R166, R180: a supervision
failure in SELF-LOAD aborts with SUPERVISION. -/
def Obligations.SelfLoadFrame : Prop :=
  (∀ s : State, s.drive.mode = .selfLoad → s.selfLoad.phase ≠ .idle → ¬ persistReached s →
    ∀ v : Int, v = frameVoltage s → ∃ t, exec .dcLinkFrame s = .next t ∧ t.grid.dutyTotal = 0 ∧ t.grid.v = v ∧
      t.grid.ovHigh = highAfter s ∧ t.link.outgoing.chopper.dutyA = t.grid.bankA.duty ∧
      t.link.outgoing.chopper.dutyB = t.grid.bankB.duty ∧ (∀ k : BankId, (t.bank k).available = false → (t.bank k).duty = 0) ∧
      ∀ offline : Bool, (offline = true ↔ ∃ k, selects s.selfLoad.pattern k = true ∧ (t.bank k).stage = .offline) →
      ∀ down : Bool, (down = true ↔
        ∃ k, selects s.selfLoad.pattern k = true ∧ ((t.bank k).stage = .tripped ∨ (t.bank k).stage = .lockedOut)) →
      (offline = true ∨ down = true ∨ 5 ≤ s.speed.v ∨ s.exchange.slate.parkApplied = false →
        (highAfter s = false → t.grid.bankA.duty = 0 ∧ t.grid.bankB.duty = 0) ∧
        (∀ k : BankId, (t.bank k).available = true → highAfter s = true → (t.bank k).duty = testDutyOf s 0 0) ∧
        testAborted s t (if offline then .station else if down then .bankTrip else if 5 ≤ s.speed.v then .moved
          else .unparked)) ∧
      (offline = false → down = false → s.speed.v < 5 → s.exchange.slate.parkApplied = true →
        t.drive = s.drive ∧ t.desk = s.desk ∧ t.timers = { s.timers with dcLink := s.timers.dcLink.map (fun _ => s.us + 500) } ∧
        t.selfLoad = { s.selfLoad with givenA := levelDuty s v .a, givenB := levelDuty s v .b, sums := t.selfLoad.sums } ∧
        (∀ k : BankId, (t.bank k).available = true → (t.bank k).duty = testDutyOf s (levelDuty s v k) (t.bank k).derate) ∧
        (s.selfLoad.phase ≠ .body → t.selfLoad.sums = s.selfLoad.sums) ∧
        (s.selfLoad.phase = .body →
          ((s.sample .dcLinkVoltage).state = .valid →
            t.selfLoad.sums.v = s.selfLoad.sums.v + v ∧ t.selfLoad.sums.vCount = s.selfLoad.sums.vCount + 1) ∧
          ((s.sample .dcLinkVoltage).state ≠ .valid →
            t.selfLoad.sums.v = s.selfLoad.sums.v ∧ t.selfLoad.sums.vCount = s.selfLoad.sums.vCount) ∧
          ((s.sample .bankACurrent).state = .valid →
            t.selfLoad.sums.iA = s.selfLoad.sums.iA + (s.sample .bankACurrent).value ∧
            t.selfLoad.sums.iACount = s.selfLoad.sums.iACount + 1) ∧
          ((s.sample .bankACurrent).state ≠ .valid →
            t.selfLoad.sums.iA = s.selfLoad.sums.iA ∧ t.selfLoad.sums.iACount = s.selfLoad.sums.iACount) ∧
          ((s.sample .bankBCurrent).state = .valid →
            t.selfLoad.sums.iB = s.selfLoad.sums.iB + (s.sample .bankBCurrent).value ∧
            t.selfLoad.sums.iBCount = s.selfLoad.sums.iBCount + 1) ∧
          ((s.sample .bankBCurrent).state ≠ .valid →
            t.selfLoad.sums.iB = s.selfLoad.sums.iB ∧ t.selfLoad.sums.iBCount = s.selfLoad.sums.iBCount)))) ∧
  (∀ s : State, s.drive.mode = .selfLoad → s.selfLoad.phase ≠ .idle → persistReached s →
    ∃ t, exec .dcLinkFrame s = .next t ∧ testAborted s t .overvoltage ∧ (t.fault .dcLinkOvervoltage).active = true ∧
      t.grid.ovReported = true ∧ ∀ k : BankId, ((t.bank k).available = true → (s.sample .dcLinkVoltage).state ≠ .never →
        (t.bank k).duty = 1000) ∧ ((t.bank k).available = false → (t.bank k).duty = 0)) ∧
  (∀ (c : Instr) (kind : FailureKind) (s : State), failsSupervision s c kind → s.drive.mode = .selfLoad →
    s.selfLoad.phase ≠ .idle → ∃ t, exec c s = .next t ∧ testAborted s t .supervision ∧
      t.link.outgoing.chopper = { s.link.outgoing.chopper with dutyA := 0, dutyB := 0 } ∧
      t.supervision.lastFailure = some kind ∧ t.supervision.failureCount = min 15 (s.supervision.failureCount + 1) ∧
      t.supervision.goodCount = 0 ∧ t.supervision.window = .longWindow ∧ t.window.attn.getLsbD 5 = true ∧
      (t.fault kind.latchCode).active = false ∧ t.row .fallbackSpeed = s.row .fallbackSpeed ∧
      t.supervision.decayRunning = s.supervision.decayRunning)

/-- R192, R193: these words of the Status Page after a governor frame: the trip cause, the five limits with their binding rows,
the seventeen rows, items of the grids, the descent record and P_avail, of the supervision record, the roles, the pass, the
channels with v, the torn slates, and words that no item fills. The model's own choices among them: the places 0x01E5 to 0x01FE,
which rest on three fixed Trip History places (assumption log 28) and on no item for Blower Since (log 53), and the descent items
as the last thermal frame left them beside the grids' as published (log 33). R196: the recorder counts each frame while Trace
Enable is set, and at the Divider forms one record: the frame's time and the selected quantities. A FREE half takes it and ends an
overrun; one filled with it reads FULL, sets TRACE HALF and makes the other half current; a half that is not FREE loses it, counts
it and reports TRACE OVERRUN, and no word of it changes. The trace items show the half, the index and the lost count; that a
restart of the recorder leaves them is the model's reading (log 34), and so are quantities 25 and 26 before a wheel's first reply
(logs 13 and 58). -/
def Obligations.TraceAndStatusPage : Prop :=
  (∀ s : State, ∃ t, exec .governorFrame s = .next t ∧
    t.readWord 0x0144 = BitVec.ofNat 16 (faultNumber s.drive.tripCause) ∧
    t.readWord 0x0145 = wordOf t.drive.limits.ls ∧ t.readWord 0x0146 = BitVec.ofNat 16 t.drive.limits.lsRow ∧
    t.readWord 0x0147 = wordOf t.drive.limits.pl ∧ t.readWord 0x0148 = BitVec.ofNat 16 t.drive.limits.plRow ∧
    t.readWord 0x0149 = wordOf t.drive.limits.pr ∧ t.readWord 0x014A = BitVec.ofNat 16 t.drive.limits.prRow ∧
    t.readWord 0x014B = wordOf t.drive.limits.rl ∧ t.readWord 0x014C = BitVec.ofNat 16 t.drive.limits.rlRow ∧
    t.readWord 0x014D = wordOf t.drive.limits.rr ∧ t.readWord 0x014E = BitVec.ofNat 16 t.drive.limits.rrRow ∧
    (∀ r : RowId, t.readWord (0x014F + 5 * r.index) = (if (t.row r).active then 1 else 0) ∧
      t.readWord (0x0150 + 5 * r.index) = wordOf (t.row r).value ∧
      t.readWord (0x0151 + 5 * r.index) = BitVec.ofNat 16 (t.row r).since ∧
      t.readWord (0x0152 + 5 * r.index) = BitVec.ofNat 16 ((t.row r).since / 65536) ∧
      t.readWord (0x0153 + 5 * r.index) = wordOf (t.row r).changes) ∧
    t.readWord 0x01D5 = wordOf s.published.grid.bankA.theta ∧ t.readWord 0x01E5 = wordOf s.published.grid.bankB.theta ∧
    t.readWord 0x01F5 = wordOf s.published.grid.dutyTotal ∧ t.readWord 0x01F6 = wordOf s.published.grid.v ∧
    t.readWord 0x01F8 = wordOf s.published.grid.pAvail ∧
    t.readWord 0x01F9 = BitVec.ofNat 16 s.grid.descent.condition.code ∧ t.readWord 0x01FE = wordOf s.grid.descent.value ∧
    t.readWord 0x02A4 = BitVec.ofNat 16 s.published.supervision.window.code ∧
    t.readWord 0x02A6 = BitVec.ofNat 16
      (s.published.supervision.failureCount % 256 + 256 * (s.published.supervision.goodCount % 256)) ∧
    (∀ r : Role, t.readWord (0x02BD + 3 * r.index) = wordOf (s.sample r).value ∧
      t.readWord (0x02BE + 3 * r.index) = wordOf (s.sample r).lastRead) ∧
    t.readWord 0x02E6 = wordOf s.published.passNumber ∧ t.readWord 0x02E8 = s.published.outSet ∧
    (∀ c : Channel, t.readWord (0x02E9 + 3 * c.index) = BitVec.ofNat 16 (s.channel c).state.code ∧
      t.readWord (0x02EA + 3 * c.index) = wordOf (s.channel c).speed ∧
      t.readWord (0x02EB + 3 * c.index) = wordOf (s.channel c).glitches) ∧
    t.readWord 0x02F5 = wordOf s.speed.v ∧ t.readWord 0x02F6 = BitVec.ofNat 16 s.speed.mark.code ∧
    t.readWord 0x02F7 = BitVec.ofNat 16 s.exchange.torn ∧
    ∀ a, (0x02A0 ≤ a ∧ a < 0x02A4) ∨ a = 0x02AB ∨ (0x02FB ≤ a ∧ a < 0x02FF) → t.readWord a = 0) ∧
  (∀ s : State, ∃ t, exec .governorFrame s = .next t ∧ ∀ c, c = s.active.trace →
    (c.enable = false → t.trace = s.trace ∧ t.fault .traceOverrun = s.fault .traceOverrun ∧
      ∀ a, 0x1000 ≤ a → t.readWord a = s.readWord a) ∧
    (c.enable = true → s.trace.frameCount + 1 < c.divider →
      t.trace = { s.trace with frameCount := s.trace.frameCount + 1 } ∧
      ∀ a, 0x1000 ≤ a → t.readWord a = s.readWord a) ∧
    (c.enable = true → c.divider ≤ s.trace.frameCount + 1 → ∀ base : Nat, base = (if s.trace.halfB then 0x1800 else 0x1000) →
      t.readWord 0x02F8 = (if t.trace.halfB then 1 else 0) ∧ t.readWord 0x02F9 = BitVec.ofNat 16 t.trace.index ∧
      t.readWord 0x02FA = BitVec.ofNat 16 t.trace.lost ∧
      (s.readWord base ≠ 0 →
        t.trace = { s.trace with
          frameCount := 0, overrun := true
          lost := if 65535 < s.trace.lost + 1 then 65535 else s.trace.lost + 1 } ∧
        (s.trace.overrun = false → (t.fault .traceOverrun).active = true) ∧
        (s.trace.overrun = true → t.fault .traceOverrun = s.fault .traceOverrun) ∧
        ∀ a, 0x1000 ≤ a → t.readWord a = s.readWord a) ∧
      (s.readWord base = 0 → ∀ size : Nat, size = 1 + c.selections.length → s.trace.index < 2047 / size →
        ∀ first : Nat, first = base + 1 + size * s.trace.index →
        t.readWord first = BitVec.ofNat 16 s.now ∧
        (∀ j, j < c.selections.length → t.readWord (first + 1 + j) = wordOf (traceQuantity t (c.selections.getD j 0))) ∧
        (s.trace.overrun = true → (t.fault .traceOverrun).active = false) ∧
        (s.trace.overrun = false → t.fault .traceOverrun = s.fault .traceOverrun) ∧
        (s.trace.index + 1 < 2047 / size →
          t.trace = { s.trace with frameCount := 0, overrun := false, index := s.trace.index + 1 } ∧
          ∀ a, 0x1000 ≤ a → (a < first ∨ first + size ≤ a) → t.readWord a = s.readWord a) ∧
        (s.trace.index + 1 = 2047 / size →
          t.trace = { s.trace with frameCount := 0, overrun := false, index := 0, halfB := !s.trace.halfB } ∧
          t.readWord base = 1 ∧ t.window.attn &&& Cause.traceHalf.mask ≠ 0 ∧
          ∀ a, 0x1000 ≤ a → a ≠ base → (a < first ∨ first + size ≤ a) → t.readWord a = s.readWord a))))

/-! ## What every step keeps -/

/-- The reset state meets every invariant that the statements below say every step keeps, and its Accepted Slate is in range. -/
def Obligations.ResetStateIsSound : Prop :=
  Ram.wf State.reset.ram = true ∧ torqueOff State.reset ∧ commandsWithinLimits State.reset ∧ rowsInRange State.reset ∧
  limitsInRange State.reset ∧ faultsSound State.reset ∧ faultsPublished State.reset ∧ fallbackSound State.reset ∧
  testSound State.reset ∧ slateInRange State.reset.exchange.slate

/-- Every step keeps the Exchange RAM (R184) in its canonical form, the model's own representation of it (assumption log 5). -/
def Obligations.StepsKeepRamCanonical : Prop :=
  ∀ s : State, Ram.wf s.ram = true → ∀ t, step s = .next t → Ram.wf t.ram = true

/-- R4 to R13: the Drive Mode changes only as the table of 1.1 says. One command other than a reset or a sweep makes one of its
changes or none; a sweep never enters FALLBACK, TRIPPED or UNCONFIGURED; a power-on reset leads to UNCONFIGURED and the other
resets to DISARMED or UNCONFIGURED; and each change writes Since and sets MODE. -/
def Obligations.ModeChangesOnlyByTheTable : Prop :=
  ∀ (c : Instr) (s : State), ∀ t, exec c s = .next t →
    (c ≠ .powerOnReset → restarts s c = false → c ≠ .boardSweep → modeChange s.drive.mode t.drive.mode) ∧
    (c = .boardSweep → t.drive.mode = s.drive.mode ∨ t.drive.mode = .disarmed ∨ t.drive.mode = .armed ∨
      t.drive.mode = .selfLoad) ∧
    (c = .powerOnReset → t.drive.mode = .unconfigured) ∧
    (restarts s c = true → t.drive.mode = if s.settings.isSome then .disarmed else .unconfigured) ∧
    (c ≠ .powerOnReset → restarts s c = false → t.drive.mode ≠ s.drive.mode →
      t.drive.since = s.now ∧ t.window.attn.getLsbD 2 = true)

/-- R23, R37, R38: every step keeps the torque off outside ARMED and FALLBACK. -/
def Obligations.StepsKeepTorqueOffOutsideDriving : Prop :=
  ∀ s : State, torqueOff s → ∀ t, step s = .next t → torqueOff t

/-- R15, R18, R36: every step keeps the rows and the effective limits in their ranges and each wheel's command within the limits
of its frame. -/
def Obligations.StepsKeepCommandsWithinLimits : Prop :=
  ∀ s : State, rowsInRange s → limitsInRange s → commandsWithinLimits s → ∀ t, step s = .next t →
    rowsInRange t ∧ limitsInRange t ∧ commandsWithinLimits t

/-- R194: every step keeps each Active record Latched and each Count within 255, and every fault record as the Exchange RAM shows
it. -/
def Obligations.StepsKeepFaultTablePublished : Prop :=
  ∀ s : State, faultsSound s → faultsPublished s → ∀ t, step s = .next t → faultsSound t ∧ faultsPublished t

/-- R163, R167, R169, R173: every step keeps Decay Running set exactly in FALLBACK with row 7 active there, FALLBACK LATCHED
Active exactly at a Failure Count of 8 or more, and a test in progress exactly in SELF-LOAD with its order held. -/
def Obligations.StepsKeepFallbackAndTestSound : Prop :=
  ∀ s : State, fallbackSound s → testSound s → ∀ t, step s = .next t → fallbackSound t ∧ testSound t

/-- R169: a command that takes the Drive Mode out of FALLBACK leaves row 7 inactive with its Value as it was, the decay timer
stopped and Decay Running clear, and a decay step that comes after it does not happen; every reset leaves row 7 inactive and the
decay stopped. -/
def Obligations.LeavingFallbackEndsRowSeven : Prop :=
  (∀ (c : Instr) (s : State), ∀ t, exec c s = .next t → c ≠ .powerOnReset → restarts s c = false →
    s.drive.mode = .fallback → t.drive.mode ≠ .fallback →
    (t.row .fallbackSpeed).active = false ∧ (t.row .fallbackSpeed).value = (s.row .fallbackSpeed).value ∧
    t.timers.decay = none ∧ t.supervision.decayRunning = false ∧ exec .fallbackDecayStep t = .next t) ∧
  ∀ (c : Instr) (s : State), ∀ t, exec c s = .next t → c = .powerOnReset ∨ restarts s c = true →
    (t.row .fallbackSpeed).active = false ∧ t.timers.decay = none ∧ t.supervision.decayRunning = false

end Statements
end

