-- ==== Sys2Proof/Laws/State.lean ====
section
/-! SUPPORT. What each named update of the State writes and leaves alone: one lemma per field per update, true by rfl. -/

namespace Sys2Proof.Machine

@[simp] theorem State.setPending_pending (s : State) (x : List Instr) : (s.setPending x).pending = x := rfl
@[simp] theorem State.setPending_us (s : State) (x : List Instr) : (s.setPending x).us = s.us := rfl
@[simp] theorem State.setPending_freeCount (s : State) (x : List Instr) : (s.setPending x).freeCount = s.freeCount := rfl
@[simp] theorem State.setPending_ram (s : State) (x : List Instr) : (s.setPending x).ram = s.ram := rfl
@[simp] theorem State.setPending_window (s : State) (x : List Instr) : (s.setPending x).window = s.window := rfl
@[simp] theorem State.setPending_settings (s : State) (x : List Instr) : (s.setPending x).settings = s.settings := rfl
@[simp] theorem State.setPending_settled (s : State) (x : List Instr) : (s.setPending x).settled = s.settled := rfl
@[simp] theorem State.setPending_exchange (s : State) (x : List Instr) : (s.setPending x).exchange = s.exchange := rfl
@[simp] theorem State.setPending_desk (s : State) (x : List Instr) : (s.setPending x).desk = s.desk := rfl
@[simp] theorem State.setPending_faults (s : State) (x : List Instr) : (s.setPending x).faults = s.faults := rfl
@[simp] theorem State.setPending_rows (s : State) (x : List Instr) : (s.setPending x).rows = s.rows := rfl
@[simp] theorem State.setPending_drive (s : State) (x : List Instr) : (s.setPending x).drive = s.drive := rfl
@[simp] theorem State.setPending_grid (s : State) (x : List Instr) : (s.setPending x).grid = s.grid := rfl
@[simp] theorem State.setPending_steer (s : State) (x : List Instr) : (s.setPending x).steer = s.steer := rfl
@[simp] theorem State.setPending_load (s : State) (x : List Instr) : (s.setPending x).load = s.load := rfl
@[simp] theorem State.setPending_link (s : State) (x : List Instr) : (s.setPending x).link = s.link := rfl
@[simp] theorem State.setPending_scan (s : State) (x : List Instr) : (s.setPending x).scan = s.scan := rfl
@[simp] theorem State.setPending_speed (s : State) (x : List Instr) : (s.setPending x).speed = s.speed := rfl
@[simp] theorem State.setPending_supervision (s : State) (x : List Instr) : (s.setPending x).supervision = s.supervision := rfl
@[simp] theorem State.setPending_selfLoad (s : State) (x : List Instr) : (s.setPending x).selfLoad = s.selfLoad := rfl
@[simp] theorem State.setPending_trace (s : State) (x : List Instr) : (s.setPending x).trace = s.trace := rfl
@[simp] theorem State.setPending_timers (s : State) (x : List Instr) : (s.setPending x).timers = s.timers := rfl
@[simp] theorem State.setPending_published (s : State) (x : List Instr) : (s.setPending x).published = s.published := rfl

@[simp] theorem State.setUs_pending (s : State) (x : Nat) : (s.setUs x).pending = s.pending := rfl
@[simp] theorem State.setUs_us (s : State) (x : Nat) : (s.setUs x).us = x := rfl
@[simp] theorem State.setUs_freeCount (s : State) (x : Nat) : (s.setUs x).freeCount = s.freeCount := rfl
@[simp] theorem State.setUs_ram (s : State) (x : Nat) : (s.setUs x).ram = s.ram := rfl
@[simp] theorem State.setUs_window (s : State) (x : Nat) : (s.setUs x).window = s.window := rfl
@[simp] theorem State.setUs_settings (s : State) (x : Nat) : (s.setUs x).settings = s.settings := rfl
@[simp] theorem State.setUs_settled (s : State) (x : Nat) : (s.setUs x).settled = s.settled := rfl
@[simp] theorem State.setUs_exchange (s : State) (x : Nat) : (s.setUs x).exchange = s.exchange := rfl
@[simp] theorem State.setUs_desk (s : State) (x : Nat) : (s.setUs x).desk = s.desk := rfl
@[simp] theorem State.setUs_faults (s : State) (x : Nat) : (s.setUs x).faults = s.faults := rfl
@[simp] theorem State.setUs_rows (s : State) (x : Nat) : (s.setUs x).rows = s.rows := rfl
@[simp] theorem State.setUs_drive (s : State) (x : Nat) : (s.setUs x).drive = s.drive := rfl
@[simp] theorem State.setUs_grid (s : State) (x : Nat) : (s.setUs x).grid = s.grid := rfl
@[simp] theorem State.setUs_steer (s : State) (x : Nat) : (s.setUs x).steer = s.steer := rfl
@[simp] theorem State.setUs_load (s : State) (x : Nat) : (s.setUs x).load = s.load := rfl
@[simp] theorem State.setUs_link (s : State) (x : Nat) : (s.setUs x).link = s.link := rfl
@[simp] theorem State.setUs_scan (s : State) (x : Nat) : (s.setUs x).scan = s.scan := rfl
@[simp] theorem State.setUs_speed (s : State) (x : Nat) : (s.setUs x).speed = s.speed := rfl
@[simp] theorem State.setUs_supervision (s : State) (x : Nat) : (s.setUs x).supervision = s.supervision := rfl
@[simp] theorem State.setUs_selfLoad (s : State) (x : Nat) : (s.setUs x).selfLoad = s.selfLoad := rfl
@[simp] theorem State.setUs_trace (s : State) (x : Nat) : (s.setUs x).trace = s.trace := rfl
@[simp] theorem State.setUs_timers (s : State) (x : Nat) : (s.setUs x).timers = s.timers := rfl
@[simp] theorem State.setUs_published (s : State) (x : Nat) : (s.setUs x).published = s.published := rfl

@[simp] theorem State.setFreeCount_pending (s : State) (x : Nat) : (s.setFreeCount x).pending = s.pending := rfl
@[simp] theorem State.setFreeCount_us (s : State) (x : Nat) : (s.setFreeCount x).us = s.us := rfl
@[simp] theorem State.setFreeCount_freeCount (s : State) (x : Nat) : (s.setFreeCount x).freeCount = x := rfl
@[simp] theorem State.setFreeCount_ram (s : State) (x : Nat) : (s.setFreeCount x).ram = s.ram := rfl
@[simp] theorem State.setFreeCount_window (s : State) (x : Nat) : (s.setFreeCount x).window = s.window := rfl
@[simp] theorem State.setFreeCount_settings (s : State) (x : Nat) : (s.setFreeCount x).settings = s.settings := rfl
@[simp] theorem State.setFreeCount_settled (s : State) (x : Nat) : (s.setFreeCount x).settled = s.settled := rfl
@[simp] theorem State.setFreeCount_exchange (s : State) (x : Nat) : (s.setFreeCount x).exchange = s.exchange := rfl
@[simp] theorem State.setFreeCount_desk (s : State) (x : Nat) : (s.setFreeCount x).desk = s.desk := rfl
@[simp] theorem State.setFreeCount_faults (s : State) (x : Nat) : (s.setFreeCount x).faults = s.faults := rfl
@[simp] theorem State.setFreeCount_rows (s : State) (x : Nat) : (s.setFreeCount x).rows = s.rows := rfl
@[simp] theorem State.setFreeCount_drive (s : State) (x : Nat) : (s.setFreeCount x).drive = s.drive := rfl
@[simp] theorem State.setFreeCount_grid (s : State) (x : Nat) : (s.setFreeCount x).grid = s.grid := rfl
@[simp] theorem State.setFreeCount_steer (s : State) (x : Nat) : (s.setFreeCount x).steer = s.steer := rfl
@[simp] theorem State.setFreeCount_load (s : State) (x : Nat) : (s.setFreeCount x).load = s.load := rfl
@[simp] theorem State.setFreeCount_link (s : State) (x : Nat) : (s.setFreeCount x).link = s.link := rfl
@[simp] theorem State.setFreeCount_scan (s : State) (x : Nat) : (s.setFreeCount x).scan = s.scan := rfl
@[simp] theorem State.setFreeCount_speed (s : State) (x : Nat) : (s.setFreeCount x).speed = s.speed := rfl
@[simp] theorem State.setFreeCount_supervision (s : State) (x : Nat) : (s.setFreeCount x).supervision = s.supervision := rfl
@[simp] theorem State.setFreeCount_selfLoad (s : State) (x : Nat) : (s.setFreeCount x).selfLoad = s.selfLoad := rfl
@[simp] theorem State.setFreeCount_trace (s : State) (x : Nat) : (s.setFreeCount x).trace = s.trace := rfl
@[simp] theorem State.setFreeCount_timers (s : State) (x : Nat) : (s.setFreeCount x).timers = s.timers := rfl
@[simp] theorem State.setFreeCount_published (s : State) (x : Nat) : (s.setFreeCount x).published = s.published := rfl

@[simp] theorem State.setRam_pending (s : State) (x : List RamCell) : (s.setRam x).pending = s.pending := rfl
@[simp] theorem State.setRam_us (s : State) (x : List RamCell) : (s.setRam x).us = s.us := rfl
@[simp] theorem State.setRam_freeCount (s : State) (x : List RamCell) : (s.setRam x).freeCount = s.freeCount := rfl
@[simp] theorem State.setRam_ram (s : State) (x : List RamCell) : (s.setRam x).ram = x := rfl
@[simp] theorem State.setRam_window (s : State) (x : List RamCell) : (s.setRam x).window = s.window := rfl
@[simp] theorem State.setRam_settings (s : State) (x : List RamCell) : (s.setRam x).settings = s.settings := rfl
@[simp] theorem State.setRam_settled (s : State) (x : List RamCell) : (s.setRam x).settled = s.settled := rfl
@[simp] theorem State.setRam_exchange (s : State) (x : List RamCell) : (s.setRam x).exchange = s.exchange := rfl
@[simp] theorem State.setRam_desk (s : State) (x : List RamCell) : (s.setRam x).desk = s.desk := rfl
@[simp] theorem State.setRam_faults (s : State) (x : List RamCell) : (s.setRam x).faults = s.faults := rfl
@[simp] theorem State.setRam_rows (s : State) (x : List RamCell) : (s.setRam x).rows = s.rows := rfl
@[simp] theorem State.setRam_drive (s : State) (x : List RamCell) : (s.setRam x).drive = s.drive := rfl
@[simp] theorem State.setRam_grid (s : State) (x : List RamCell) : (s.setRam x).grid = s.grid := rfl
@[simp] theorem State.setRam_steer (s : State) (x : List RamCell) : (s.setRam x).steer = s.steer := rfl
@[simp] theorem State.setRam_load (s : State) (x : List RamCell) : (s.setRam x).load = s.load := rfl
@[simp] theorem State.setRam_link (s : State) (x : List RamCell) : (s.setRam x).link = s.link := rfl
@[simp] theorem State.setRam_scan (s : State) (x : List RamCell) : (s.setRam x).scan = s.scan := rfl
@[simp] theorem State.setRam_speed (s : State) (x : List RamCell) : (s.setRam x).speed = s.speed := rfl
@[simp] theorem State.setRam_supervision (s : State) (x : List RamCell) : (s.setRam x).supervision = s.supervision := rfl
@[simp] theorem State.setRam_selfLoad (s : State) (x : List RamCell) : (s.setRam x).selfLoad = s.selfLoad := rfl
@[simp] theorem State.setRam_trace (s : State) (x : List RamCell) : (s.setRam x).trace = s.trace := rfl
@[simp] theorem State.setRam_timers (s : State) (x : List RamCell) : (s.setRam x).timers = s.timers := rfl
@[simp] theorem State.setRam_published (s : State) (x : List RamCell) : (s.setRam x).published = s.published := rfl

@[simp] theorem State.setWindow_pending (s : State) (x : Window) : (s.setWindow x).pending = s.pending := rfl
@[simp] theorem State.setWindow_us (s : State) (x : Window) : (s.setWindow x).us = s.us := rfl
@[simp] theorem State.setWindow_freeCount (s : State) (x : Window) : (s.setWindow x).freeCount = s.freeCount := rfl
@[simp] theorem State.setWindow_ram (s : State) (x : Window) : (s.setWindow x).ram = s.ram := rfl
@[simp] theorem State.setWindow_window (s : State) (x : Window) : (s.setWindow x).window = x := rfl
@[simp] theorem State.setWindow_settings (s : State) (x : Window) : (s.setWindow x).settings = s.settings := rfl
@[simp] theorem State.setWindow_settled (s : State) (x : Window) : (s.setWindow x).settled = s.settled := rfl
@[simp] theorem State.setWindow_exchange (s : State) (x : Window) : (s.setWindow x).exchange = s.exchange := rfl
@[simp] theorem State.setWindow_desk (s : State) (x : Window) : (s.setWindow x).desk = s.desk := rfl
@[simp] theorem State.setWindow_faults (s : State) (x : Window) : (s.setWindow x).faults = s.faults := rfl
@[simp] theorem State.setWindow_rows (s : State) (x : Window) : (s.setWindow x).rows = s.rows := rfl
@[simp] theorem State.setWindow_drive (s : State) (x : Window) : (s.setWindow x).drive = s.drive := rfl
@[simp] theorem State.setWindow_grid (s : State) (x : Window) : (s.setWindow x).grid = s.grid := rfl
@[simp] theorem State.setWindow_steer (s : State) (x : Window) : (s.setWindow x).steer = s.steer := rfl
@[simp] theorem State.setWindow_load (s : State) (x : Window) : (s.setWindow x).load = s.load := rfl
@[simp] theorem State.setWindow_link (s : State) (x : Window) : (s.setWindow x).link = s.link := rfl
@[simp] theorem State.setWindow_scan (s : State) (x : Window) : (s.setWindow x).scan = s.scan := rfl
@[simp] theorem State.setWindow_speed (s : State) (x : Window) : (s.setWindow x).speed = s.speed := rfl
@[simp] theorem State.setWindow_supervision (s : State) (x : Window) : (s.setWindow x).supervision = s.supervision := rfl
@[simp] theorem State.setWindow_selfLoad (s : State) (x : Window) : (s.setWindow x).selfLoad = s.selfLoad := rfl
@[simp] theorem State.setWindow_trace (s : State) (x : Window) : (s.setWindow x).trace = s.trace := rfl
@[simp] theorem State.setWindow_timers (s : State) (x : Window) : (s.setWindow x).timers = s.timers := rfl
@[simp] theorem State.setWindow_published (s : State) (x : Window) : (s.setWindow x).published = s.published := rfl

@[simp] theorem State.setSettings_pending (s : State) (x : Option Settings) : (s.setSettings x).pending = s.pending := rfl
@[simp] theorem State.setSettings_us (s : State) (x : Option Settings) : (s.setSettings x).us = s.us := rfl
@[simp] theorem State.setSettings_freeCount (s : State) (x : Option Settings) : (s.setSettings x).freeCount = s.freeCount := rfl
@[simp] theorem State.setSettings_ram (s : State) (x : Option Settings) : (s.setSettings x).ram = s.ram := rfl
@[simp] theorem State.setSettings_window (s : State) (x : Option Settings) : (s.setSettings x).window = s.window := rfl
@[simp] theorem State.setSettings_settings (s : State) (x : Option Settings) : (s.setSettings x).settings = x := rfl
@[simp] theorem State.setSettings_settled (s : State) (x : Option Settings) : (s.setSettings x).settled = s.settled := rfl
@[simp] theorem State.setSettings_exchange (s : State) (x : Option Settings) : (s.setSettings x).exchange = s.exchange := rfl
@[simp] theorem State.setSettings_desk (s : State) (x : Option Settings) : (s.setSettings x).desk = s.desk := rfl
@[simp] theorem State.setSettings_faults (s : State) (x : Option Settings) : (s.setSettings x).faults = s.faults := rfl
@[simp] theorem State.setSettings_rows (s : State) (x : Option Settings) : (s.setSettings x).rows = s.rows := rfl
@[simp] theorem State.setSettings_drive (s : State) (x : Option Settings) : (s.setSettings x).drive = s.drive := rfl
@[simp] theorem State.setSettings_grid (s : State) (x : Option Settings) : (s.setSettings x).grid = s.grid := rfl
@[simp] theorem State.setSettings_steer (s : State) (x : Option Settings) : (s.setSettings x).steer = s.steer := rfl
@[simp] theorem State.setSettings_load (s : State) (x : Option Settings) : (s.setSettings x).load = s.load := rfl
@[simp] theorem State.setSettings_link (s : State) (x : Option Settings) : (s.setSettings x).link = s.link := rfl
@[simp] theorem State.setSettings_scan (s : State) (x : Option Settings) : (s.setSettings x).scan = s.scan := rfl
@[simp] theorem State.setSettings_speed (s : State) (x : Option Settings) : (s.setSettings x).speed = s.speed := rfl
@[simp] theorem State.setSettings_supervision (s : State) (x : Option Settings) : (s.setSettings x).supervision = s.supervision := rfl
@[simp] theorem State.setSettings_selfLoad (s : State) (x : Option Settings) : (s.setSettings x).selfLoad = s.selfLoad := rfl
@[simp] theorem State.setSettings_trace (s : State) (x : Option Settings) : (s.setSettings x).trace = s.trace := rfl
@[simp] theorem State.setSettings_timers (s : State) (x : Option Settings) : (s.setSettings x).timers = s.timers := rfl
@[simp] theorem State.setSettings_published (s : State) (x : Option Settings) : (s.setSettings x).published = s.published := rfl

@[simp] theorem State.setSettled_pending (s : State) (x : Option Settings) : (s.setSettled x).pending = s.pending := rfl
@[simp] theorem State.setSettled_us (s : State) (x : Option Settings) : (s.setSettled x).us = s.us := rfl
@[simp] theorem State.setSettled_freeCount (s : State) (x : Option Settings) : (s.setSettled x).freeCount = s.freeCount := rfl
@[simp] theorem State.setSettled_ram (s : State) (x : Option Settings) : (s.setSettled x).ram = s.ram := rfl
@[simp] theorem State.setSettled_window (s : State) (x : Option Settings) : (s.setSettled x).window = s.window := rfl
@[simp] theorem State.setSettled_settings (s : State) (x : Option Settings) : (s.setSettled x).settings = s.settings := rfl
@[simp] theorem State.setSettled_settled (s : State) (x : Option Settings) : (s.setSettled x).settled = x := rfl
@[simp] theorem State.setSettled_exchange (s : State) (x : Option Settings) : (s.setSettled x).exchange = s.exchange := rfl
@[simp] theorem State.setSettled_desk (s : State) (x : Option Settings) : (s.setSettled x).desk = s.desk := rfl
@[simp] theorem State.setSettled_faults (s : State) (x : Option Settings) : (s.setSettled x).faults = s.faults := rfl
@[simp] theorem State.setSettled_rows (s : State) (x : Option Settings) : (s.setSettled x).rows = s.rows := rfl
@[simp] theorem State.setSettled_drive (s : State) (x : Option Settings) : (s.setSettled x).drive = s.drive := rfl
@[simp] theorem State.setSettled_grid (s : State) (x : Option Settings) : (s.setSettled x).grid = s.grid := rfl
@[simp] theorem State.setSettled_steer (s : State) (x : Option Settings) : (s.setSettled x).steer = s.steer := rfl
@[simp] theorem State.setSettled_load (s : State) (x : Option Settings) : (s.setSettled x).load = s.load := rfl
@[simp] theorem State.setSettled_link (s : State) (x : Option Settings) : (s.setSettled x).link = s.link := rfl
@[simp] theorem State.setSettled_scan (s : State) (x : Option Settings) : (s.setSettled x).scan = s.scan := rfl
@[simp] theorem State.setSettled_speed (s : State) (x : Option Settings) : (s.setSettled x).speed = s.speed := rfl
@[simp] theorem State.setSettled_supervision (s : State) (x : Option Settings) : (s.setSettled x).supervision = s.supervision := rfl
@[simp] theorem State.setSettled_selfLoad (s : State) (x : Option Settings) : (s.setSettled x).selfLoad = s.selfLoad := rfl
@[simp] theorem State.setSettled_trace (s : State) (x : Option Settings) : (s.setSettled x).trace = s.trace := rfl
@[simp] theorem State.setSettled_timers (s : State) (x : Option Settings) : (s.setSettled x).timers = s.timers := rfl
@[simp] theorem State.setSettled_published (s : State) (x : Option Settings) : (s.setSettled x).published = s.published := rfl

@[simp] theorem State.setExchange_pending (s : State) (x : Exchange) : (s.setExchange x).pending = s.pending := rfl
@[simp] theorem State.setExchange_us (s : State) (x : Exchange) : (s.setExchange x).us = s.us := rfl
@[simp] theorem State.setExchange_freeCount (s : State) (x : Exchange) : (s.setExchange x).freeCount = s.freeCount := rfl
@[simp] theorem State.setExchange_ram (s : State) (x : Exchange) : (s.setExchange x).ram = s.ram := rfl
@[simp] theorem State.setExchange_window (s : State) (x : Exchange) : (s.setExchange x).window = s.window := rfl
@[simp] theorem State.setExchange_settings (s : State) (x : Exchange) : (s.setExchange x).settings = s.settings := rfl
@[simp] theorem State.setExchange_settled (s : State) (x : Exchange) : (s.setExchange x).settled = s.settled := rfl
@[simp] theorem State.setExchange_exchange (s : State) (x : Exchange) : (s.setExchange x).exchange = x := rfl
@[simp] theorem State.setExchange_desk (s : State) (x : Exchange) : (s.setExchange x).desk = s.desk := rfl
@[simp] theorem State.setExchange_faults (s : State) (x : Exchange) : (s.setExchange x).faults = s.faults := rfl
@[simp] theorem State.setExchange_rows (s : State) (x : Exchange) : (s.setExchange x).rows = s.rows := rfl
@[simp] theorem State.setExchange_drive (s : State) (x : Exchange) : (s.setExchange x).drive = s.drive := rfl
@[simp] theorem State.setExchange_grid (s : State) (x : Exchange) : (s.setExchange x).grid = s.grid := rfl
@[simp] theorem State.setExchange_steer (s : State) (x : Exchange) : (s.setExchange x).steer = s.steer := rfl
@[simp] theorem State.setExchange_load (s : State) (x : Exchange) : (s.setExchange x).load = s.load := rfl
@[simp] theorem State.setExchange_link (s : State) (x : Exchange) : (s.setExchange x).link = s.link := rfl
@[simp] theorem State.setExchange_scan (s : State) (x : Exchange) : (s.setExchange x).scan = s.scan := rfl
@[simp] theorem State.setExchange_speed (s : State) (x : Exchange) : (s.setExchange x).speed = s.speed := rfl
@[simp] theorem State.setExchange_supervision (s : State) (x : Exchange) : (s.setExchange x).supervision = s.supervision := rfl
@[simp] theorem State.setExchange_selfLoad (s : State) (x : Exchange) : (s.setExchange x).selfLoad = s.selfLoad := rfl
@[simp] theorem State.setExchange_trace (s : State) (x : Exchange) : (s.setExchange x).trace = s.trace := rfl
@[simp] theorem State.setExchange_timers (s : State) (x : Exchange) : (s.setExchange x).timers = s.timers := rfl
@[simp] theorem State.setExchange_published (s : State) (x : Exchange) : (s.setExchange x).published = s.published := rfl

@[simp] theorem State.setDesk_pending (s : State) (x : OrderDesk) : (s.setDesk x).pending = s.pending := rfl
@[simp] theorem State.setDesk_us (s : State) (x : OrderDesk) : (s.setDesk x).us = s.us := rfl
@[simp] theorem State.setDesk_freeCount (s : State) (x : OrderDesk) : (s.setDesk x).freeCount = s.freeCount := rfl
@[simp] theorem State.setDesk_ram (s : State) (x : OrderDesk) : (s.setDesk x).ram = s.ram := rfl
@[simp] theorem State.setDesk_window (s : State) (x : OrderDesk) : (s.setDesk x).window = s.window := rfl
@[simp] theorem State.setDesk_settings (s : State) (x : OrderDesk) : (s.setDesk x).settings = s.settings := rfl
@[simp] theorem State.setDesk_settled (s : State) (x : OrderDesk) : (s.setDesk x).settled = s.settled := rfl
@[simp] theorem State.setDesk_exchange (s : State) (x : OrderDesk) : (s.setDesk x).exchange = s.exchange := rfl
@[simp] theorem State.setDesk_desk (s : State) (x : OrderDesk) : (s.setDesk x).desk = x := rfl
@[simp] theorem State.setDesk_faults (s : State) (x : OrderDesk) : (s.setDesk x).faults = s.faults := rfl
@[simp] theorem State.setDesk_rows (s : State) (x : OrderDesk) : (s.setDesk x).rows = s.rows := rfl
@[simp] theorem State.setDesk_drive (s : State) (x : OrderDesk) : (s.setDesk x).drive = s.drive := rfl
@[simp] theorem State.setDesk_grid (s : State) (x : OrderDesk) : (s.setDesk x).grid = s.grid := rfl
@[simp] theorem State.setDesk_steer (s : State) (x : OrderDesk) : (s.setDesk x).steer = s.steer := rfl
@[simp] theorem State.setDesk_load (s : State) (x : OrderDesk) : (s.setDesk x).load = s.load := rfl
@[simp] theorem State.setDesk_link (s : State) (x : OrderDesk) : (s.setDesk x).link = s.link := rfl
@[simp] theorem State.setDesk_scan (s : State) (x : OrderDesk) : (s.setDesk x).scan = s.scan := rfl
@[simp] theorem State.setDesk_speed (s : State) (x : OrderDesk) : (s.setDesk x).speed = s.speed := rfl
@[simp] theorem State.setDesk_supervision (s : State) (x : OrderDesk) : (s.setDesk x).supervision = s.supervision := rfl
@[simp] theorem State.setDesk_selfLoad (s : State) (x : OrderDesk) : (s.setDesk x).selfLoad = s.selfLoad := rfl
@[simp] theorem State.setDesk_trace (s : State) (x : OrderDesk) : (s.setDesk x).trace = s.trace := rfl
@[simp] theorem State.setDesk_timers (s : State) (x : OrderDesk) : (s.setDesk x).timers = s.timers := rfl
@[simp] theorem State.setDesk_published (s : State) (x : OrderDesk) : (s.setDesk x).published = s.published := rfl

@[simp] theorem State.setFaults_pending (s : State) (x : Vector FaultRecord 43) : (s.setFaults x).pending = s.pending := rfl
@[simp] theorem State.setFaults_us (s : State) (x : Vector FaultRecord 43) : (s.setFaults x).us = s.us := rfl
@[simp] theorem State.setFaults_freeCount (s : State) (x : Vector FaultRecord 43) : (s.setFaults x).freeCount = s.freeCount := rfl
@[simp] theorem State.setFaults_ram (s : State) (x : Vector FaultRecord 43) : (s.setFaults x).ram = s.ram := rfl
@[simp] theorem State.setFaults_window (s : State) (x : Vector FaultRecord 43) : (s.setFaults x).window = s.window := rfl
@[simp] theorem State.setFaults_settings (s : State) (x : Vector FaultRecord 43) : (s.setFaults x).settings = s.settings := rfl
@[simp] theorem State.setFaults_settled (s : State) (x : Vector FaultRecord 43) : (s.setFaults x).settled = s.settled := rfl
@[simp] theorem State.setFaults_exchange (s : State) (x : Vector FaultRecord 43) : (s.setFaults x).exchange = s.exchange := rfl
@[simp] theorem State.setFaults_desk (s : State) (x : Vector FaultRecord 43) : (s.setFaults x).desk = s.desk := rfl
@[simp] theorem State.setFaults_faults (s : State) (x : Vector FaultRecord 43) : (s.setFaults x).faults = x := rfl
@[simp] theorem State.setFaults_rows (s : State) (x : Vector FaultRecord 43) : (s.setFaults x).rows = s.rows := rfl
@[simp] theorem State.setFaults_drive (s : State) (x : Vector FaultRecord 43) : (s.setFaults x).drive = s.drive := rfl
@[simp] theorem State.setFaults_grid (s : State) (x : Vector FaultRecord 43) : (s.setFaults x).grid = s.grid := rfl
@[simp] theorem State.setFaults_steer (s : State) (x : Vector FaultRecord 43) : (s.setFaults x).steer = s.steer := rfl
@[simp] theorem State.setFaults_load (s : State) (x : Vector FaultRecord 43) : (s.setFaults x).load = s.load := rfl
@[simp] theorem State.setFaults_link (s : State) (x : Vector FaultRecord 43) : (s.setFaults x).link = s.link := rfl
@[simp] theorem State.setFaults_scan (s : State) (x : Vector FaultRecord 43) : (s.setFaults x).scan = s.scan := rfl
@[simp] theorem State.setFaults_speed (s : State) (x : Vector FaultRecord 43) : (s.setFaults x).speed = s.speed := rfl
@[simp] theorem State.setFaults_supervision (s : State) (x : Vector FaultRecord 43) : (s.setFaults x).supervision = s.supervision := rfl
@[simp] theorem State.setFaults_selfLoad (s : State) (x : Vector FaultRecord 43) : (s.setFaults x).selfLoad = s.selfLoad := rfl
@[simp] theorem State.setFaults_trace (s : State) (x : Vector FaultRecord 43) : (s.setFaults x).trace = s.trace := rfl
@[simp] theorem State.setFaults_timers (s : State) (x : Vector FaultRecord 43) : (s.setFaults x).timers = s.timers := rfl
@[simp] theorem State.setFaults_published (s : State) (x : Vector FaultRecord 43) : (s.setFaults x).published = s.published := rfl

@[simp] theorem State.setRows_pending (s : State) (x : Vector LimitRow 17) : (s.setRows x).pending = s.pending := rfl
@[simp] theorem State.setRows_us (s : State) (x : Vector LimitRow 17) : (s.setRows x).us = s.us := rfl
@[simp] theorem State.setRows_freeCount (s : State) (x : Vector LimitRow 17) : (s.setRows x).freeCount = s.freeCount := rfl
@[simp] theorem State.setRows_ram (s : State) (x : Vector LimitRow 17) : (s.setRows x).ram = s.ram := rfl
@[simp] theorem State.setRows_window (s : State) (x : Vector LimitRow 17) : (s.setRows x).window = s.window := rfl
@[simp] theorem State.setRows_settings (s : State) (x : Vector LimitRow 17) : (s.setRows x).settings = s.settings := rfl
@[simp] theorem State.setRows_settled (s : State) (x : Vector LimitRow 17) : (s.setRows x).settled = s.settled := rfl
@[simp] theorem State.setRows_exchange (s : State) (x : Vector LimitRow 17) : (s.setRows x).exchange = s.exchange := rfl
@[simp] theorem State.setRows_desk (s : State) (x : Vector LimitRow 17) : (s.setRows x).desk = s.desk := rfl
@[simp] theorem State.setRows_faults (s : State) (x : Vector LimitRow 17) : (s.setRows x).faults = s.faults := rfl
@[simp] theorem State.setRows_rows (s : State) (x : Vector LimitRow 17) : (s.setRows x).rows = x := rfl
@[simp] theorem State.setRows_drive (s : State) (x : Vector LimitRow 17) : (s.setRows x).drive = s.drive := rfl
@[simp] theorem State.setRows_grid (s : State) (x : Vector LimitRow 17) : (s.setRows x).grid = s.grid := rfl
@[simp] theorem State.setRows_steer (s : State) (x : Vector LimitRow 17) : (s.setRows x).steer = s.steer := rfl
@[simp] theorem State.setRows_load (s : State) (x : Vector LimitRow 17) : (s.setRows x).load = s.load := rfl
@[simp] theorem State.setRows_link (s : State) (x : Vector LimitRow 17) : (s.setRows x).link = s.link := rfl
@[simp] theorem State.setRows_scan (s : State) (x : Vector LimitRow 17) : (s.setRows x).scan = s.scan := rfl
@[simp] theorem State.setRows_speed (s : State) (x : Vector LimitRow 17) : (s.setRows x).speed = s.speed := rfl
@[simp] theorem State.setRows_supervision (s : State) (x : Vector LimitRow 17) : (s.setRows x).supervision = s.supervision := rfl
@[simp] theorem State.setRows_selfLoad (s : State) (x : Vector LimitRow 17) : (s.setRows x).selfLoad = s.selfLoad := rfl
@[simp] theorem State.setRows_trace (s : State) (x : Vector LimitRow 17) : (s.setRows x).trace = s.trace := rfl
@[simp] theorem State.setRows_timers (s : State) (x : Vector LimitRow 17) : (s.setRows x).timers = s.timers := rfl
@[simp] theorem State.setRows_published (s : State) (x : Vector LimitRow 17) : (s.setRows x).published = s.published := rfl

@[simp] theorem State.setDrive_pending (s : State) (x : Drive) : (s.setDrive x).pending = s.pending := rfl
@[simp] theorem State.setDrive_us (s : State) (x : Drive) : (s.setDrive x).us = s.us := rfl
@[simp] theorem State.setDrive_freeCount (s : State) (x : Drive) : (s.setDrive x).freeCount = s.freeCount := rfl
@[simp] theorem State.setDrive_ram (s : State) (x : Drive) : (s.setDrive x).ram = s.ram := rfl
@[simp] theorem State.setDrive_window (s : State) (x : Drive) : (s.setDrive x).window = s.window := rfl
@[simp] theorem State.setDrive_settings (s : State) (x : Drive) : (s.setDrive x).settings = s.settings := rfl
@[simp] theorem State.setDrive_settled (s : State) (x : Drive) : (s.setDrive x).settled = s.settled := rfl
@[simp] theorem State.setDrive_exchange (s : State) (x : Drive) : (s.setDrive x).exchange = s.exchange := rfl
@[simp] theorem State.setDrive_desk (s : State) (x : Drive) : (s.setDrive x).desk = s.desk := rfl
@[simp] theorem State.setDrive_faults (s : State) (x : Drive) : (s.setDrive x).faults = s.faults := rfl
@[simp] theorem State.setDrive_rows (s : State) (x : Drive) : (s.setDrive x).rows = s.rows := rfl
@[simp] theorem State.setDrive_drive (s : State) (x : Drive) : (s.setDrive x).drive = x := rfl
@[simp] theorem State.setDrive_grid (s : State) (x : Drive) : (s.setDrive x).grid = s.grid := rfl
@[simp] theorem State.setDrive_steer (s : State) (x : Drive) : (s.setDrive x).steer = s.steer := rfl
@[simp] theorem State.setDrive_load (s : State) (x : Drive) : (s.setDrive x).load = s.load := rfl
@[simp] theorem State.setDrive_link (s : State) (x : Drive) : (s.setDrive x).link = s.link := rfl
@[simp] theorem State.setDrive_scan (s : State) (x : Drive) : (s.setDrive x).scan = s.scan := rfl
@[simp] theorem State.setDrive_speed (s : State) (x : Drive) : (s.setDrive x).speed = s.speed := rfl
@[simp] theorem State.setDrive_supervision (s : State) (x : Drive) : (s.setDrive x).supervision = s.supervision := rfl
@[simp] theorem State.setDrive_selfLoad (s : State) (x : Drive) : (s.setDrive x).selfLoad = s.selfLoad := rfl
@[simp] theorem State.setDrive_trace (s : State) (x : Drive) : (s.setDrive x).trace = s.trace := rfl
@[simp] theorem State.setDrive_timers (s : State) (x : Drive) : (s.setDrive x).timers = s.timers := rfl
@[simp] theorem State.setDrive_published (s : State) (x : Drive) : (s.setDrive x).published = s.published := rfl

@[simp] theorem State.setGrid_pending (s : State) (x : Grid) : (s.setGrid x).pending = s.pending := rfl
@[simp] theorem State.setGrid_us (s : State) (x : Grid) : (s.setGrid x).us = s.us := rfl
@[simp] theorem State.setGrid_freeCount (s : State) (x : Grid) : (s.setGrid x).freeCount = s.freeCount := rfl
@[simp] theorem State.setGrid_ram (s : State) (x : Grid) : (s.setGrid x).ram = s.ram := rfl
@[simp] theorem State.setGrid_window (s : State) (x : Grid) : (s.setGrid x).window = s.window := rfl
@[simp] theorem State.setGrid_settings (s : State) (x : Grid) : (s.setGrid x).settings = s.settings := rfl
@[simp] theorem State.setGrid_settled (s : State) (x : Grid) : (s.setGrid x).settled = s.settled := rfl
@[simp] theorem State.setGrid_exchange (s : State) (x : Grid) : (s.setGrid x).exchange = s.exchange := rfl
@[simp] theorem State.setGrid_desk (s : State) (x : Grid) : (s.setGrid x).desk = s.desk := rfl
@[simp] theorem State.setGrid_faults (s : State) (x : Grid) : (s.setGrid x).faults = s.faults := rfl
@[simp] theorem State.setGrid_rows (s : State) (x : Grid) : (s.setGrid x).rows = s.rows := rfl
@[simp] theorem State.setGrid_drive (s : State) (x : Grid) : (s.setGrid x).drive = s.drive := rfl
@[simp] theorem State.setGrid_grid (s : State) (x : Grid) : (s.setGrid x).grid = x := rfl
@[simp] theorem State.setGrid_steer (s : State) (x : Grid) : (s.setGrid x).steer = s.steer := rfl
@[simp] theorem State.setGrid_load (s : State) (x : Grid) : (s.setGrid x).load = s.load := rfl
@[simp] theorem State.setGrid_link (s : State) (x : Grid) : (s.setGrid x).link = s.link := rfl
@[simp] theorem State.setGrid_scan (s : State) (x : Grid) : (s.setGrid x).scan = s.scan := rfl
@[simp] theorem State.setGrid_speed (s : State) (x : Grid) : (s.setGrid x).speed = s.speed := rfl
@[simp] theorem State.setGrid_supervision (s : State) (x : Grid) : (s.setGrid x).supervision = s.supervision := rfl
@[simp] theorem State.setGrid_selfLoad (s : State) (x : Grid) : (s.setGrid x).selfLoad = s.selfLoad := rfl
@[simp] theorem State.setGrid_trace (s : State) (x : Grid) : (s.setGrid x).trace = s.trace := rfl
@[simp] theorem State.setGrid_timers (s : State) (x : Grid) : (s.setGrid x).timers = s.timers := rfl
@[simp] theorem State.setGrid_published (s : State) (x : Grid) : (s.setGrid x).published = s.published := rfl

@[simp] theorem State.setSteer_pending (s : State) (x : Steer) : (s.setSteer x).pending = s.pending := rfl
@[simp] theorem State.setSteer_us (s : State) (x : Steer) : (s.setSteer x).us = s.us := rfl
@[simp] theorem State.setSteer_freeCount (s : State) (x : Steer) : (s.setSteer x).freeCount = s.freeCount := rfl
@[simp] theorem State.setSteer_ram (s : State) (x : Steer) : (s.setSteer x).ram = s.ram := rfl
@[simp] theorem State.setSteer_window (s : State) (x : Steer) : (s.setSteer x).window = s.window := rfl
@[simp] theorem State.setSteer_settings (s : State) (x : Steer) : (s.setSteer x).settings = s.settings := rfl
@[simp] theorem State.setSteer_settled (s : State) (x : Steer) : (s.setSteer x).settled = s.settled := rfl
@[simp] theorem State.setSteer_exchange (s : State) (x : Steer) : (s.setSteer x).exchange = s.exchange := rfl
@[simp] theorem State.setSteer_desk (s : State) (x : Steer) : (s.setSteer x).desk = s.desk := rfl
@[simp] theorem State.setSteer_faults (s : State) (x : Steer) : (s.setSteer x).faults = s.faults := rfl
@[simp] theorem State.setSteer_rows (s : State) (x : Steer) : (s.setSteer x).rows = s.rows := rfl
@[simp] theorem State.setSteer_drive (s : State) (x : Steer) : (s.setSteer x).drive = s.drive := rfl
@[simp] theorem State.setSteer_grid (s : State) (x : Steer) : (s.setSteer x).grid = s.grid := rfl
@[simp] theorem State.setSteer_steer (s : State) (x : Steer) : (s.setSteer x).steer = x := rfl
@[simp] theorem State.setSteer_load (s : State) (x : Steer) : (s.setSteer x).load = s.load := rfl
@[simp] theorem State.setSteer_link (s : State) (x : Steer) : (s.setSteer x).link = s.link := rfl
@[simp] theorem State.setSteer_scan (s : State) (x : Steer) : (s.setSteer x).scan = s.scan := rfl
@[simp] theorem State.setSteer_speed (s : State) (x : Steer) : (s.setSteer x).speed = s.speed := rfl
@[simp] theorem State.setSteer_supervision (s : State) (x : Steer) : (s.setSteer x).supervision = s.supervision := rfl
@[simp] theorem State.setSteer_selfLoad (s : State) (x : Steer) : (s.setSteer x).selfLoad = s.selfLoad := rfl
@[simp] theorem State.setSteer_trace (s : State) (x : Steer) : (s.setSteer x).trace = s.trace := rfl
@[simp] theorem State.setSteer_timers (s : State) (x : Steer) : (s.setSteer x).timers = s.timers := rfl
@[simp] theorem State.setSteer_published (s : State) (x : Steer) : (s.setSteer x).published = s.published := rfl

@[simp] theorem State.setLoad_pending (s : State) (x : Load) : (s.setLoad x).pending = s.pending := rfl
@[simp] theorem State.setLoad_us (s : State) (x : Load) : (s.setLoad x).us = s.us := rfl
@[simp] theorem State.setLoad_freeCount (s : State) (x : Load) : (s.setLoad x).freeCount = s.freeCount := rfl
@[simp] theorem State.setLoad_ram (s : State) (x : Load) : (s.setLoad x).ram = s.ram := rfl
@[simp] theorem State.setLoad_window (s : State) (x : Load) : (s.setLoad x).window = s.window := rfl
@[simp] theorem State.setLoad_settings (s : State) (x : Load) : (s.setLoad x).settings = s.settings := rfl
@[simp] theorem State.setLoad_settled (s : State) (x : Load) : (s.setLoad x).settled = s.settled := rfl
@[simp] theorem State.setLoad_exchange (s : State) (x : Load) : (s.setLoad x).exchange = s.exchange := rfl
@[simp] theorem State.setLoad_desk (s : State) (x : Load) : (s.setLoad x).desk = s.desk := rfl
@[simp] theorem State.setLoad_faults (s : State) (x : Load) : (s.setLoad x).faults = s.faults := rfl
@[simp] theorem State.setLoad_rows (s : State) (x : Load) : (s.setLoad x).rows = s.rows := rfl
@[simp] theorem State.setLoad_drive (s : State) (x : Load) : (s.setLoad x).drive = s.drive := rfl
@[simp] theorem State.setLoad_grid (s : State) (x : Load) : (s.setLoad x).grid = s.grid := rfl
@[simp] theorem State.setLoad_steer (s : State) (x : Load) : (s.setLoad x).steer = s.steer := rfl
@[simp] theorem State.setLoad_load (s : State) (x : Load) : (s.setLoad x).load = x := rfl
@[simp] theorem State.setLoad_link (s : State) (x : Load) : (s.setLoad x).link = s.link := rfl
@[simp] theorem State.setLoad_scan (s : State) (x : Load) : (s.setLoad x).scan = s.scan := rfl
@[simp] theorem State.setLoad_speed (s : State) (x : Load) : (s.setLoad x).speed = s.speed := rfl
@[simp] theorem State.setLoad_supervision (s : State) (x : Load) : (s.setLoad x).supervision = s.supervision := rfl
@[simp] theorem State.setLoad_selfLoad (s : State) (x : Load) : (s.setLoad x).selfLoad = s.selfLoad := rfl
@[simp] theorem State.setLoad_trace (s : State) (x : Load) : (s.setLoad x).trace = s.trace := rfl
@[simp] theorem State.setLoad_timers (s : State) (x : Load) : (s.setLoad x).timers = s.timers := rfl
@[simp] theorem State.setLoad_published (s : State) (x : Load) : (s.setLoad x).published = s.published := rfl

@[simp] theorem State.setLink_pending (s : State) (x : Link) : (s.setLink x).pending = s.pending := rfl
@[simp] theorem State.setLink_us (s : State) (x : Link) : (s.setLink x).us = s.us := rfl
@[simp] theorem State.setLink_freeCount (s : State) (x : Link) : (s.setLink x).freeCount = s.freeCount := rfl
@[simp] theorem State.setLink_ram (s : State) (x : Link) : (s.setLink x).ram = s.ram := rfl
@[simp] theorem State.setLink_window (s : State) (x : Link) : (s.setLink x).window = s.window := rfl
@[simp] theorem State.setLink_settings (s : State) (x : Link) : (s.setLink x).settings = s.settings := rfl
@[simp] theorem State.setLink_settled (s : State) (x : Link) : (s.setLink x).settled = s.settled := rfl
@[simp] theorem State.setLink_exchange (s : State) (x : Link) : (s.setLink x).exchange = s.exchange := rfl
@[simp] theorem State.setLink_desk (s : State) (x : Link) : (s.setLink x).desk = s.desk := rfl
@[simp] theorem State.setLink_faults (s : State) (x : Link) : (s.setLink x).faults = s.faults := rfl
@[simp] theorem State.setLink_rows (s : State) (x : Link) : (s.setLink x).rows = s.rows := rfl
@[simp] theorem State.setLink_drive (s : State) (x : Link) : (s.setLink x).drive = s.drive := rfl
@[simp] theorem State.setLink_grid (s : State) (x : Link) : (s.setLink x).grid = s.grid := rfl
@[simp] theorem State.setLink_steer (s : State) (x : Link) : (s.setLink x).steer = s.steer := rfl
@[simp] theorem State.setLink_load (s : State) (x : Link) : (s.setLink x).load = s.load := rfl
@[simp] theorem State.setLink_link (s : State) (x : Link) : (s.setLink x).link = x := rfl
@[simp] theorem State.setLink_scan (s : State) (x : Link) : (s.setLink x).scan = s.scan := rfl
@[simp] theorem State.setLink_speed (s : State) (x : Link) : (s.setLink x).speed = s.speed := rfl
@[simp] theorem State.setLink_supervision (s : State) (x : Link) : (s.setLink x).supervision = s.supervision := rfl
@[simp] theorem State.setLink_selfLoad (s : State) (x : Link) : (s.setLink x).selfLoad = s.selfLoad := rfl
@[simp] theorem State.setLink_trace (s : State) (x : Link) : (s.setLink x).trace = s.trace := rfl
@[simp] theorem State.setLink_timers (s : State) (x : Link) : (s.setLink x).timers = s.timers := rfl
@[simp] theorem State.setLink_published (s : State) (x : Link) : (s.setLink x).published = s.published := rfl

@[simp] theorem State.setScan_pending (s : State) (x : Scan) : (s.setScan x).pending = s.pending := rfl
@[simp] theorem State.setScan_us (s : State) (x : Scan) : (s.setScan x).us = s.us := rfl
@[simp] theorem State.setScan_freeCount (s : State) (x : Scan) : (s.setScan x).freeCount = s.freeCount := rfl
@[simp] theorem State.setScan_ram (s : State) (x : Scan) : (s.setScan x).ram = s.ram := rfl
@[simp] theorem State.setScan_window (s : State) (x : Scan) : (s.setScan x).window = s.window := rfl
@[simp] theorem State.setScan_settings (s : State) (x : Scan) : (s.setScan x).settings = s.settings := rfl
@[simp] theorem State.setScan_settled (s : State) (x : Scan) : (s.setScan x).settled = s.settled := rfl
@[simp] theorem State.setScan_exchange (s : State) (x : Scan) : (s.setScan x).exchange = s.exchange := rfl
@[simp] theorem State.setScan_desk (s : State) (x : Scan) : (s.setScan x).desk = s.desk := rfl
@[simp] theorem State.setScan_faults (s : State) (x : Scan) : (s.setScan x).faults = s.faults := rfl
@[simp] theorem State.setScan_rows (s : State) (x : Scan) : (s.setScan x).rows = s.rows := rfl
@[simp] theorem State.setScan_drive (s : State) (x : Scan) : (s.setScan x).drive = s.drive := rfl
@[simp] theorem State.setScan_grid (s : State) (x : Scan) : (s.setScan x).grid = s.grid := rfl
@[simp] theorem State.setScan_steer (s : State) (x : Scan) : (s.setScan x).steer = s.steer := rfl
@[simp] theorem State.setScan_load (s : State) (x : Scan) : (s.setScan x).load = s.load := rfl
@[simp] theorem State.setScan_link (s : State) (x : Scan) : (s.setScan x).link = s.link := rfl
@[simp] theorem State.setScan_scan (s : State) (x : Scan) : (s.setScan x).scan = x := rfl
@[simp] theorem State.setScan_speed (s : State) (x : Scan) : (s.setScan x).speed = s.speed := rfl
@[simp] theorem State.setScan_supervision (s : State) (x : Scan) : (s.setScan x).supervision = s.supervision := rfl
@[simp] theorem State.setScan_selfLoad (s : State) (x : Scan) : (s.setScan x).selfLoad = s.selfLoad := rfl
@[simp] theorem State.setScan_trace (s : State) (x : Scan) : (s.setScan x).trace = s.trace := rfl
@[simp] theorem State.setScan_timers (s : State) (x : Scan) : (s.setScan x).timers = s.timers := rfl
@[simp] theorem State.setScan_published (s : State) (x : Scan) : (s.setScan x).published = s.published := rfl

@[simp] theorem State.setSpeed_pending (s : State) (x : Speed) : (s.setSpeed x).pending = s.pending := rfl
@[simp] theorem State.setSpeed_us (s : State) (x : Speed) : (s.setSpeed x).us = s.us := rfl
@[simp] theorem State.setSpeed_freeCount (s : State) (x : Speed) : (s.setSpeed x).freeCount = s.freeCount := rfl
@[simp] theorem State.setSpeed_ram (s : State) (x : Speed) : (s.setSpeed x).ram = s.ram := rfl
@[simp] theorem State.setSpeed_window (s : State) (x : Speed) : (s.setSpeed x).window = s.window := rfl
@[simp] theorem State.setSpeed_settings (s : State) (x : Speed) : (s.setSpeed x).settings = s.settings := rfl
@[simp] theorem State.setSpeed_settled (s : State) (x : Speed) : (s.setSpeed x).settled = s.settled := rfl
@[simp] theorem State.setSpeed_exchange (s : State) (x : Speed) : (s.setSpeed x).exchange = s.exchange := rfl
@[simp] theorem State.setSpeed_desk (s : State) (x : Speed) : (s.setSpeed x).desk = s.desk := rfl
@[simp] theorem State.setSpeed_faults (s : State) (x : Speed) : (s.setSpeed x).faults = s.faults := rfl
@[simp] theorem State.setSpeed_rows (s : State) (x : Speed) : (s.setSpeed x).rows = s.rows := rfl
@[simp] theorem State.setSpeed_drive (s : State) (x : Speed) : (s.setSpeed x).drive = s.drive := rfl
@[simp] theorem State.setSpeed_grid (s : State) (x : Speed) : (s.setSpeed x).grid = s.grid := rfl
@[simp] theorem State.setSpeed_steer (s : State) (x : Speed) : (s.setSpeed x).steer = s.steer := rfl
@[simp] theorem State.setSpeed_load (s : State) (x : Speed) : (s.setSpeed x).load = s.load := rfl
@[simp] theorem State.setSpeed_link (s : State) (x : Speed) : (s.setSpeed x).link = s.link := rfl
@[simp] theorem State.setSpeed_scan (s : State) (x : Speed) : (s.setSpeed x).scan = s.scan := rfl
@[simp] theorem State.setSpeed_speed (s : State) (x : Speed) : (s.setSpeed x).speed = x := rfl
@[simp] theorem State.setSpeed_supervision (s : State) (x : Speed) : (s.setSpeed x).supervision = s.supervision := rfl
@[simp] theorem State.setSpeed_selfLoad (s : State) (x : Speed) : (s.setSpeed x).selfLoad = s.selfLoad := rfl
@[simp] theorem State.setSpeed_trace (s : State) (x : Speed) : (s.setSpeed x).trace = s.trace := rfl
@[simp] theorem State.setSpeed_timers (s : State) (x : Speed) : (s.setSpeed x).timers = s.timers := rfl
@[simp] theorem State.setSpeed_published (s : State) (x : Speed) : (s.setSpeed x).published = s.published := rfl

@[simp] theorem State.setSupervision_pending (s : State) (x : Supervision) : (s.setSupervision x).pending = s.pending := rfl
@[simp] theorem State.setSupervision_us (s : State) (x : Supervision) : (s.setSupervision x).us = s.us := rfl
@[simp] theorem State.setSupervision_freeCount (s : State) (x : Supervision) : (s.setSupervision x).freeCount = s.freeCount := rfl
@[simp] theorem State.setSupervision_ram (s : State) (x : Supervision) : (s.setSupervision x).ram = s.ram := rfl
@[simp] theorem State.setSupervision_window (s : State) (x : Supervision) : (s.setSupervision x).window = s.window := rfl
@[simp] theorem State.setSupervision_settings (s : State) (x : Supervision) : (s.setSupervision x).settings = s.settings := rfl
@[simp] theorem State.setSupervision_settled (s : State) (x : Supervision) : (s.setSupervision x).settled = s.settled := rfl
@[simp] theorem State.setSupervision_exchange (s : State) (x : Supervision) : (s.setSupervision x).exchange = s.exchange := rfl
@[simp] theorem State.setSupervision_desk (s : State) (x : Supervision) : (s.setSupervision x).desk = s.desk := rfl
@[simp] theorem State.setSupervision_faults (s : State) (x : Supervision) : (s.setSupervision x).faults = s.faults := rfl
@[simp] theorem State.setSupervision_rows (s : State) (x : Supervision) : (s.setSupervision x).rows = s.rows := rfl
@[simp] theorem State.setSupervision_drive (s : State) (x : Supervision) : (s.setSupervision x).drive = s.drive := rfl
@[simp] theorem State.setSupervision_grid (s : State) (x : Supervision) : (s.setSupervision x).grid = s.grid := rfl
@[simp] theorem State.setSupervision_steer (s : State) (x : Supervision) : (s.setSupervision x).steer = s.steer := rfl
@[simp] theorem State.setSupervision_load (s : State) (x : Supervision) : (s.setSupervision x).load = s.load := rfl
@[simp] theorem State.setSupervision_link (s : State) (x : Supervision) : (s.setSupervision x).link = s.link := rfl
@[simp] theorem State.setSupervision_scan (s : State) (x : Supervision) : (s.setSupervision x).scan = s.scan := rfl
@[simp] theorem State.setSupervision_speed (s : State) (x : Supervision) : (s.setSupervision x).speed = s.speed := rfl
@[simp] theorem State.setSupervision_supervision (s : State) (x : Supervision) : (s.setSupervision x).supervision = x := rfl
@[simp] theorem State.setSupervision_selfLoad (s : State) (x : Supervision) : (s.setSupervision x).selfLoad = s.selfLoad := rfl
@[simp] theorem State.setSupervision_trace (s : State) (x : Supervision) : (s.setSupervision x).trace = s.trace := rfl
@[simp] theorem State.setSupervision_timers (s : State) (x : Supervision) : (s.setSupervision x).timers = s.timers := rfl
@[simp] theorem State.setSupervision_published (s : State) (x : Supervision) : (s.setSupervision x).published = s.published := rfl

@[simp] theorem State.setSelfLoad_pending (s : State) (x : SelfLoad) : (s.setSelfLoad x).pending = s.pending := rfl
@[simp] theorem State.setSelfLoad_us (s : State) (x : SelfLoad) : (s.setSelfLoad x).us = s.us := rfl
@[simp] theorem State.setSelfLoad_freeCount (s : State) (x : SelfLoad) : (s.setSelfLoad x).freeCount = s.freeCount := rfl
@[simp] theorem State.setSelfLoad_ram (s : State) (x : SelfLoad) : (s.setSelfLoad x).ram = s.ram := rfl
@[simp] theorem State.setSelfLoad_window (s : State) (x : SelfLoad) : (s.setSelfLoad x).window = s.window := rfl
@[simp] theorem State.setSelfLoad_settings (s : State) (x : SelfLoad) : (s.setSelfLoad x).settings = s.settings := rfl
@[simp] theorem State.setSelfLoad_settled (s : State) (x : SelfLoad) : (s.setSelfLoad x).settled = s.settled := rfl
@[simp] theorem State.setSelfLoad_exchange (s : State) (x : SelfLoad) : (s.setSelfLoad x).exchange = s.exchange := rfl
@[simp] theorem State.setSelfLoad_desk (s : State) (x : SelfLoad) : (s.setSelfLoad x).desk = s.desk := rfl
@[simp] theorem State.setSelfLoad_faults (s : State) (x : SelfLoad) : (s.setSelfLoad x).faults = s.faults := rfl
@[simp] theorem State.setSelfLoad_rows (s : State) (x : SelfLoad) : (s.setSelfLoad x).rows = s.rows := rfl
@[simp] theorem State.setSelfLoad_drive (s : State) (x : SelfLoad) : (s.setSelfLoad x).drive = s.drive := rfl
@[simp] theorem State.setSelfLoad_grid (s : State) (x : SelfLoad) : (s.setSelfLoad x).grid = s.grid := rfl
@[simp] theorem State.setSelfLoad_steer (s : State) (x : SelfLoad) : (s.setSelfLoad x).steer = s.steer := rfl
@[simp] theorem State.setSelfLoad_load (s : State) (x : SelfLoad) : (s.setSelfLoad x).load = s.load := rfl
@[simp] theorem State.setSelfLoad_link (s : State) (x : SelfLoad) : (s.setSelfLoad x).link = s.link := rfl
@[simp] theorem State.setSelfLoad_scan (s : State) (x : SelfLoad) : (s.setSelfLoad x).scan = s.scan := rfl
@[simp] theorem State.setSelfLoad_speed (s : State) (x : SelfLoad) : (s.setSelfLoad x).speed = s.speed := rfl
@[simp] theorem State.setSelfLoad_supervision (s : State) (x : SelfLoad) : (s.setSelfLoad x).supervision = s.supervision := rfl
@[simp] theorem State.setSelfLoad_selfLoad (s : State) (x : SelfLoad) : (s.setSelfLoad x).selfLoad = x := rfl
@[simp] theorem State.setSelfLoad_trace (s : State) (x : SelfLoad) : (s.setSelfLoad x).trace = s.trace := rfl
@[simp] theorem State.setSelfLoad_timers (s : State) (x : SelfLoad) : (s.setSelfLoad x).timers = s.timers := rfl
@[simp] theorem State.setSelfLoad_published (s : State) (x : SelfLoad) : (s.setSelfLoad x).published = s.published := rfl

@[simp] theorem State.setTrace_pending (s : State) (x : Trace) : (s.setTrace x).pending = s.pending := rfl
@[simp] theorem State.setTrace_us (s : State) (x : Trace) : (s.setTrace x).us = s.us := rfl
@[simp] theorem State.setTrace_freeCount (s : State) (x : Trace) : (s.setTrace x).freeCount = s.freeCount := rfl
@[simp] theorem State.setTrace_ram (s : State) (x : Trace) : (s.setTrace x).ram = s.ram := rfl
@[simp] theorem State.setTrace_window (s : State) (x : Trace) : (s.setTrace x).window = s.window := rfl
@[simp] theorem State.setTrace_settings (s : State) (x : Trace) : (s.setTrace x).settings = s.settings := rfl
@[simp] theorem State.setTrace_settled (s : State) (x : Trace) : (s.setTrace x).settled = s.settled := rfl
@[simp] theorem State.setTrace_exchange (s : State) (x : Trace) : (s.setTrace x).exchange = s.exchange := rfl
@[simp] theorem State.setTrace_desk (s : State) (x : Trace) : (s.setTrace x).desk = s.desk := rfl
@[simp] theorem State.setTrace_faults (s : State) (x : Trace) : (s.setTrace x).faults = s.faults := rfl
@[simp] theorem State.setTrace_rows (s : State) (x : Trace) : (s.setTrace x).rows = s.rows := rfl
@[simp] theorem State.setTrace_drive (s : State) (x : Trace) : (s.setTrace x).drive = s.drive := rfl
@[simp] theorem State.setTrace_grid (s : State) (x : Trace) : (s.setTrace x).grid = s.grid := rfl
@[simp] theorem State.setTrace_steer (s : State) (x : Trace) : (s.setTrace x).steer = s.steer := rfl
@[simp] theorem State.setTrace_load (s : State) (x : Trace) : (s.setTrace x).load = s.load := rfl
@[simp] theorem State.setTrace_link (s : State) (x : Trace) : (s.setTrace x).link = s.link := rfl
@[simp] theorem State.setTrace_scan (s : State) (x : Trace) : (s.setTrace x).scan = s.scan := rfl
@[simp] theorem State.setTrace_speed (s : State) (x : Trace) : (s.setTrace x).speed = s.speed := rfl
@[simp] theorem State.setTrace_supervision (s : State) (x : Trace) : (s.setTrace x).supervision = s.supervision := rfl
@[simp] theorem State.setTrace_selfLoad (s : State) (x : Trace) : (s.setTrace x).selfLoad = s.selfLoad := rfl
@[simp] theorem State.setTrace_trace (s : State) (x : Trace) : (s.setTrace x).trace = x := rfl
@[simp] theorem State.setTrace_timers (s : State) (x : Trace) : (s.setTrace x).timers = s.timers := rfl
@[simp] theorem State.setTrace_published (s : State) (x : Trace) : (s.setTrace x).published = s.published := rfl

@[simp] theorem State.setTimers_pending (s : State) (x : Timers) : (s.setTimers x).pending = s.pending := rfl
@[simp] theorem State.setTimers_us (s : State) (x : Timers) : (s.setTimers x).us = s.us := rfl
@[simp] theorem State.setTimers_freeCount (s : State) (x : Timers) : (s.setTimers x).freeCount = s.freeCount := rfl
@[simp] theorem State.setTimers_ram (s : State) (x : Timers) : (s.setTimers x).ram = s.ram := rfl
@[simp] theorem State.setTimers_window (s : State) (x : Timers) : (s.setTimers x).window = s.window := rfl
@[simp] theorem State.setTimers_settings (s : State) (x : Timers) : (s.setTimers x).settings = s.settings := rfl
@[simp] theorem State.setTimers_settled (s : State) (x : Timers) : (s.setTimers x).settled = s.settled := rfl
@[simp] theorem State.setTimers_exchange (s : State) (x : Timers) : (s.setTimers x).exchange = s.exchange := rfl
@[simp] theorem State.setTimers_desk (s : State) (x : Timers) : (s.setTimers x).desk = s.desk := rfl
@[simp] theorem State.setTimers_faults (s : State) (x : Timers) : (s.setTimers x).faults = s.faults := rfl
@[simp] theorem State.setTimers_rows (s : State) (x : Timers) : (s.setTimers x).rows = s.rows := rfl
@[simp] theorem State.setTimers_drive (s : State) (x : Timers) : (s.setTimers x).drive = s.drive := rfl
@[simp] theorem State.setTimers_grid (s : State) (x : Timers) : (s.setTimers x).grid = s.grid := rfl
@[simp] theorem State.setTimers_steer (s : State) (x : Timers) : (s.setTimers x).steer = s.steer := rfl
@[simp] theorem State.setTimers_load (s : State) (x : Timers) : (s.setTimers x).load = s.load := rfl
@[simp] theorem State.setTimers_link (s : State) (x : Timers) : (s.setTimers x).link = s.link := rfl
@[simp] theorem State.setTimers_scan (s : State) (x : Timers) : (s.setTimers x).scan = s.scan := rfl
@[simp] theorem State.setTimers_speed (s : State) (x : Timers) : (s.setTimers x).speed = s.speed := rfl
@[simp] theorem State.setTimers_supervision (s : State) (x : Timers) : (s.setTimers x).supervision = s.supervision := rfl
@[simp] theorem State.setTimers_selfLoad (s : State) (x : Timers) : (s.setTimers x).selfLoad = s.selfLoad := rfl
@[simp] theorem State.setTimers_trace (s : State) (x : Timers) : (s.setTimers x).trace = s.trace := rfl
@[simp] theorem State.setTimers_timers (s : State) (x : Timers) : (s.setTimers x).timers = x := rfl
@[simp] theorem State.setTimers_published (s : State) (x : Timers) : (s.setTimers x).published = s.published := rfl

@[simp] theorem State.setPublished_pending (s : State) (x : Publications) : (s.setPublished x).pending = s.pending := rfl
@[simp] theorem State.setPublished_us (s : State) (x : Publications) : (s.setPublished x).us = s.us := rfl
@[simp] theorem State.setPublished_freeCount (s : State) (x : Publications) : (s.setPublished x).freeCount = s.freeCount := rfl
@[simp] theorem State.setPublished_ram (s : State) (x : Publications) : (s.setPublished x).ram = s.ram := rfl
@[simp] theorem State.setPublished_window (s : State) (x : Publications) : (s.setPublished x).window = s.window := rfl
@[simp] theorem State.setPublished_settings (s : State) (x : Publications) : (s.setPublished x).settings = s.settings := rfl
@[simp] theorem State.setPublished_settled (s : State) (x : Publications) : (s.setPublished x).settled = s.settled := rfl
@[simp] theorem State.setPublished_exchange (s : State) (x : Publications) : (s.setPublished x).exchange = s.exchange := rfl
@[simp] theorem State.setPublished_desk (s : State) (x : Publications) : (s.setPublished x).desk = s.desk := rfl
@[simp] theorem State.setPublished_faults (s : State) (x : Publications) : (s.setPublished x).faults = s.faults := rfl
@[simp] theorem State.setPublished_rows (s : State) (x : Publications) : (s.setPublished x).rows = s.rows := rfl
@[simp] theorem State.setPublished_drive (s : State) (x : Publications) : (s.setPublished x).drive = s.drive := rfl
@[simp] theorem State.setPublished_grid (s : State) (x : Publications) : (s.setPublished x).grid = s.grid := rfl
@[simp] theorem State.setPublished_steer (s : State) (x : Publications) : (s.setPublished x).steer = s.steer := rfl
@[simp] theorem State.setPublished_load (s : State) (x : Publications) : (s.setPublished x).load = s.load := rfl
@[simp] theorem State.setPublished_link (s : State) (x : Publications) : (s.setPublished x).link = s.link := rfl
@[simp] theorem State.setPublished_scan (s : State) (x : Publications) : (s.setPublished x).scan = s.scan := rfl
@[simp] theorem State.setPublished_speed (s : State) (x : Publications) : (s.setPublished x).speed = s.speed := rfl
@[simp] theorem State.setPublished_supervision (s : State) (x : Publications) : (s.setPublished x).supervision = s.supervision := rfl
@[simp] theorem State.setPublished_selfLoad (s : State) (x : Publications) : (s.setPublished x).selfLoad = s.selfLoad := rfl
@[simp] theorem State.setPublished_trace (s : State) (x : Publications) : (s.setPublished x).trace = s.trace := rfl
@[simp] theorem State.setPublished_timers (s : State) (x : Publications) : (s.setPublished x).timers = s.timers := rfl
@[simp] theorem State.setPublished_published (s : State) (x : Publications) : (s.setPublished x).published = x := rfl

/-- What every step of a fold leaves alone, the fold leaves alone. -/
theorem State.foldl_keeps {σ α β : Type} (g : σ → β) (f : σ → α → σ) (h : ∀ s x, g (f s x) = g s) :
    ∀ (l : List α) (s : σ), g (l.foldl f s) = g s
  | [], _ => rfl
  | x :: rest, s => by rw [List.foldl_cons, State.foldl_keeps g f h rest, h]

end Sys2Proof.Machine
end

