-- ==== Sys2Proof/Laws/FrameFlags.lean ====
section
/-! SUPPORT. What each operation of Machine/Flags.lean leaves alone: every field of the State that it does not name
keeps its value. -/

namespace Sys2Proof.Machine

/-- What `State.raiseCause` leaves alone. -/
@[simp] theorem State.raiseCause_frame (s : State) (c : Cause) :
    (s.raiseCause c).pending = s.pending ∧
    (s.raiseCause c).us = s.us ∧
    (s.raiseCause c).freeCount = s.freeCount ∧
    (s.raiseCause c).ram = s.ram ∧
    (s.raiseCause c).settings = s.settings ∧
    (s.raiseCause c).settled = s.settled ∧
    (s.raiseCause c).exchange = s.exchange ∧
    (s.raiseCause c).desk = s.desk ∧
    (s.raiseCause c).faults = s.faults ∧
    (s.raiseCause c).rows = s.rows ∧
    (s.raiseCause c).drive = s.drive ∧
    (s.raiseCause c).grid = s.grid ∧
    (s.raiseCause c).steer = s.steer ∧
    (s.raiseCause c).load = s.load ∧
    (s.raiseCause c).link = s.link ∧
    (s.raiseCause c).scan = s.scan ∧
    (s.raiseCause c).speed = s.speed ∧
    (s.raiseCause c).supervision = s.supervision ∧
    (s.raiseCause c).selfLoad = s.selfLoad ∧
    (s.raiseCause c).trace = s.trace ∧
    (s.raiseCause c).timers = s.timers ∧
    (s.raiseCause c).published = s.published := by
  unfold State.raiseCause
  try dsimp only
  simp

end Sys2Proof.Machine
end

