-- ==== Sys2Proof/Laws/FrameOps.lean ====
section
/-! SUPPORT. What each operation of Machine/Ops.lean leaves alone: every field of the State that it does not name
keeps its value. -/

namespace Sys2Proof.Machine

/-- What `State.writeWords` leaves alone. -/
@[simp] theorem State.writeWords_frame (s : State) (a : Nat) (ws : List Word) :
    (s.writeWords a ws).pending = s.pending ∧
    (s.writeWords a ws).us = s.us ∧
    (s.writeWords a ws).freeCount = s.freeCount ∧
    (s.writeWords a ws).window = s.window ∧
    (s.writeWords a ws).settings = s.settings ∧
    (s.writeWords a ws).settled = s.settled ∧
    (s.writeWords a ws).exchange = s.exchange ∧
    (s.writeWords a ws).desk = s.desk ∧
    (s.writeWords a ws).faults = s.faults ∧
    (s.writeWords a ws).rows = s.rows ∧
    (s.writeWords a ws).drive = s.drive ∧
    (s.writeWords a ws).grid = s.grid ∧
    (s.writeWords a ws).steer = s.steer ∧
    (s.writeWords a ws).load = s.load ∧
    (s.writeWords a ws).link = s.link ∧
    (s.writeWords a ws).scan = s.scan ∧
    (s.writeWords a ws).speed = s.speed ∧
    (s.writeWords a ws).supervision = s.supervision ∧
    (s.writeWords a ws).selfLoad = s.selfLoad ∧
    (s.writeWords a ws).trace = s.trace ∧
    (s.writeWords a ws).timers = s.timers ∧
    (s.writeWords a ws).published = s.published := by
  unfold State.writeWords
  try dsimp only
  simp

/-- What `State.controllerWrite` leaves alone. -/
@[simp] theorem State.controllerWrite_frame (s : State) (a : BitVec 14) (w : Word) :
    (s.controllerWrite a w).pending = s.pending ∧
    (s.controllerWrite a w).us = s.us ∧
    (s.controllerWrite a w).freeCount = s.freeCount ∧
    (s.controllerWrite a w).window = s.window ∧
    (s.controllerWrite a w).settings = s.settings ∧
    (s.controllerWrite a w).settled = s.settled ∧
    (s.controllerWrite a w).exchange = s.exchange ∧
    (s.controllerWrite a w).desk = s.desk ∧
    (s.controllerWrite a w).faults = s.faults ∧
    (s.controllerWrite a w).rows = s.rows ∧
    (s.controllerWrite a w).drive = s.drive ∧
    (s.controllerWrite a w).grid = s.grid ∧
    (s.controllerWrite a w).steer = s.steer ∧
    (s.controllerWrite a w).load = s.load ∧
    (s.controllerWrite a w).link = s.link ∧
    (s.controllerWrite a w).scan = s.scan ∧
    (s.controllerWrite a w).speed = s.speed ∧
    (s.controllerWrite a w).supervision = s.supervision ∧
    (s.controllerWrite a w).selfLoad = s.selfLoad ∧
    (s.controllerWrite a w).trace = s.trace ∧
    (s.controllerWrite a w).timers = s.timers ∧
    (s.controllerWrite a w).published = s.published := by
  unfold State.controllerWrite
  try dsimp only
  simp

/-- What `State.drawFree` leaves alone. -/
@[simp] theorem State.drawFree_frame (s : State) :
    (s.drawFree).pending = s.pending ∧
    (s.drawFree).us = s.us ∧
    (s.drawFree).ram = s.ram ∧
    (s.drawFree).window = s.window ∧
    (s.drawFree).settings = s.settings ∧
    (s.drawFree).settled = s.settled ∧
    (s.drawFree).exchange = s.exchange ∧
    (s.drawFree).desk = s.desk ∧
    (s.drawFree).faults = s.faults ∧
    (s.drawFree).rows = s.rows ∧
    (s.drawFree).drive = s.drive ∧
    (s.drawFree).grid = s.grid ∧
    (s.drawFree).steer = s.steer ∧
    (s.drawFree).load = s.load ∧
    (s.drawFree).link = s.link ∧
    (s.drawFree).scan = s.scan ∧
    (s.drawFree).speed = s.speed ∧
    (s.drawFree).supervision = s.supervision ∧
    (s.drawFree).selfLoad = s.selfLoad ∧
    (s.drawFree).trace = s.trace ∧
    (s.drawFree).timers = s.timers ∧
    (s.drawFree).published = s.published := by
  unfold State.drawFree
  try dsimp only
  simp

/-- What `State.writeRow` leaves alone. -/
@[simp] theorem State.writeRow_frame (s : State) (r : RowId) (active : Bool) (value : Option Int) :
    (s.writeRow r active value).pending = s.pending ∧
    (s.writeRow r active value).us = s.us ∧
    (s.writeRow r active value).freeCount = s.freeCount ∧
    (s.writeRow r active value).ram = s.ram ∧
    (s.writeRow r active value).window = s.window ∧
    (s.writeRow r active value).settings = s.settings ∧
    (s.writeRow r active value).settled = s.settled ∧
    (s.writeRow r active value).exchange = s.exchange ∧
    (s.writeRow r active value).desk = s.desk ∧
    (s.writeRow r active value).faults = s.faults ∧
    (s.writeRow r active value).drive = s.drive ∧
    (s.writeRow r active value).grid = s.grid ∧
    (s.writeRow r active value).steer = s.steer ∧
    (s.writeRow r active value).load = s.load ∧
    (s.writeRow r active value).link = s.link ∧
    (s.writeRow r active value).scan = s.scan ∧
    (s.writeRow r active value).speed = s.speed ∧
    (s.writeRow r active value).supervision = s.supervision ∧
    (s.writeRow r active value).selfLoad = s.selfLoad ∧
    (s.writeRow r active value).trace = s.trace ∧
    (s.writeRow r active value).timers = s.timers ∧
    (s.writeRow r active value).published = s.published := by
  unfold State.writeRow
  try dsimp only
  (repeat' split) <;> simp

/-- What `State.writeZoneRow` leaves alone. -/
@[simp] theorem State.writeZoneRow_frame (s : State) :
    (s.writeZoneRow).pending = s.pending ∧
    (s.writeZoneRow).us = s.us ∧
    (s.writeZoneRow).freeCount = s.freeCount ∧
    (s.writeZoneRow).ram = s.ram ∧
    (s.writeZoneRow).window = s.window ∧
    (s.writeZoneRow).settings = s.settings ∧
    (s.writeZoneRow).settled = s.settled ∧
    (s.writeZoneRow).exchange = s.exchange ∧
    (s.writeZoneRow).desk = s.desk ∧
    (s.writeZoneRow).faults = s.faults ∧
    (s.writeZoneRow).drive = s.drive ∧
    (s.writeZoneRow).grid = s.grid ∧
    (s.writeZoneRow).steer = s.steer ∧
    (s.writeZoneRow).load = s.load ∧
    (s.writeZoneRow).link = s.link ∧
    (s.writeZoneRow).scan = s.scan ∧
    (s.writeZoneRow).speed = s.speed ∧
    (s.writeZoneRow).supervision = s.supervision ∧
    (s.writeZoneRow).selfLoad = s.selfLoad ∧
    (s.writeZoneRow).trace = s.trace ∧
    (s.writeZoneRow).timers = s.timers ∧
    (s.writeZoneRow).published = s.published := by
  unfold State.writeZoneRow
  try dsimp only
  (repeat' split) <;> simp

/-- What `State.publishSupervision` leaves alone. -/
@[simp] theorem State.publishSupervision_frame (s : State) :
    (s.publishSupervision).pending = s.pending ∧
    (s.publishSupervision).us = s.us ∧
    (s.publishSupervision).freeCount = s.freeCount ∧
    (s.publishSupervision).ram = s.ram ∧
    (s.publishSupervision).window = s.window ∧
    (s.publishSupervision).settings = s.settings ∧
    (s.publishSupervision).settled = s.settled ∧
    (s.publishSupervision).exchange = s.exchange ∧
    (s.publishSupervision).desk = s.desk ∧
    (s.publishSupervision).faults = s.faults ∧
    (s.publishSupervision).rows = s.rows ∧
    (s.publishSupervision).drive = s.drive ∧
    (s.publishSupervision).grid = s.grid ∧
    (s.publishSupervision).steer = s.steer ∧
    (s.publishSupervision).load = s.load ∧
    (s.publishSupervision).link = s.link ∧
    (s.publishSupervision).scan = s.scan ∧
    (s.publishSupervision).speed = s.speed ∧
    (s.publishSupervision).supervision = s.supervision ∧
    (s.publishSupervision).selfLoad = s.selfLoad ∧
    (s.publishSupervision).trace = s.trace ∧
    (s.publishSupervision).timers = s.timers := by
  unfold State.publishSupervision
  try dsimp only
  simp

/-- What `State.stopDecay` leaves alone. -/
@[simp] theorem State.stopDecay_frame (s : State) :
    (s.stopDecay).pending = s.pending ∧
    (s.stopDecay).us = s.us ∧
    (s.stopDecay).freeCount = s.freeCount ∧
    (s.stopDecay).ram = s.ram ∧
    (s.stopDecay).window = s.window ∧
    (s.stopDecay).settings = s.settings ∧
    (s.stopDecay).settled = s.settled ∧
    (s.stopDecay).exchange = s.exchange ∧
    (s.stopDecay).desk = s.desk ∧
    (s.stopDecay).faults = s.faults ∧
    (s.stopDecay).drive = s.drive ∧
    (s.stopDecay).grid = s.grid ∧
    (s.stopDecay).steer = s.steer ∧
    (s.stopDecay).load = s.load ∧
    (s.stopDecay).link = s.link ∧
    (s.stopDecay).scan = s.scan ∧
    (s.stopDecay).speed = s.speed ∧
    (s.stopDecay).selfLoad = s.selfLoad ∧
    (s.stopDecay).trace = s.trace := by
  unfold State.stopDecay
  try dsimp only
  simp

/-- What `State.changeMode` leaves alone. -/
@[simp] theorem State.changeMode_frame (s : State) (m : Mode) :
    (s.changeMode m).pending = s.pending ∧
    (s.changeMode m).us = s.us ∧
    (s.changeMode m).freeCount = s.freeCount ∧
    (s.changeMode m).ram = s.ram ∧
    (s.changeMode m).settings = s.settings ∧
    (s.changeMode m).settled = s.settled ∧
    (s.changeMode m).exchange = s.exchange ∧
    (s.changeMode m).desk = s.desk ∧
    (s.changeMode m).faults = s.faults ∧
    (s.changeMode m).grid = s.grid ∧
    (s.changeMode m).steer = s.steer ∧
    (s.changeMode m).load = s.load ∧
    (s.changeMode m).link = s.link ∧
    (s.changeMode m).scan = s.scan ∧
    (s.changeMode m).speed = s.speed ∧
    (s.changeMode m).selfLoad = s.selfLoad ∧
    (s.changeMode m).trace = s.trace := by
  unfold State.changeMode
  try dsimp only
  (repeat' split) <;> simp

/-- What `State.writeTorqueRecords` leaves alone. -/
@[simp] theorem State.writeTorqueRecords_frame (s : State) (left right : Int) (enable : Bool) :
    (s.writeTorqueRecords left right enable).pending = s.pending ∧
    (s.writeTorqueRecords left right enable).us = s.us ∧
    (s.writeTorqueRecords left right enable).freeCount = s.freeCount ∧
    (s.writeTorqueRecords left right enable).ram = s.ram ∧
    (s.writeTorqueRecords left right enable).window = s.window ∧
    (s.writeTorqueRecords left right enable).settings = s.settings ∧
    (s.writeTorqueRecords left right enable).settled = s.settled ∧
    (s.writeTorqueRecords left right enable).exchange = s.exchange ∧
    (s.writeTorqueRecords left right enable).desk = s.desk ∧
    (s.writeTorqueRecords left right enable).faults = s.faults ∧
    (s.writeTorqueRecords left right enable).rows = s.rows ∧
    (s.writeTorqueRecords left right enable).drive = s.drive ∧
    (s.writeTorqueRecords left right enable).grid = s.grid ∧
    (s.writeTorqueRecords left right enable).steer = s.steer ∧
    (s.writeTorqueRecords left right enable).load = s.load ∧
    (s.writeTorqueRecords left right enable).scan = s.scan ∧
    (s.writeTorqueRecords left right enable).speed = s.speed ∧
    (s.writeTorqueRecords left right enable).supervision = s.supervision ∧
    (s.writeTorqueRecords left right enable).selfLoad = s.selfLoad ∧
    (s.writeTorqueRecords left right enable).trace = s.trace ∧
    (s.writeTorqueRecords left right enable).timers = s.timers ∧
    (s.writeTorqueRecords left right enable).published = s.published := by
  unfold State.writeTorqueRecords
  try dsimp only
  simp

/-- What `State.zeroTorque` leaves alone. -/
@[simp] theorem State.zeroTorque_frame (s : State) :
    (s.zeroTorque).pending = s.pending ∧
    (s.zeroTorque).us = s.us ∧
    (s.zeroTorque).freeCount = s.freeCount ∧
    (s.zeroTorque).ram = s.ram ∧
    (s.zeroTorque).window = s.window ∧
    (s.zeroTorque).settings = s.settings ∧
    (s.zeroTorque).settled = s.settled ∧
    (s.zeroTorque).exchange = s.exchange ∧
    (s.zeroTorque).desk = s.desk ∧
    (s.zeroTorque).faults = s.faults ∧
    (s.zeroTorque).rows = s.rows ∧
    (s.zeroTorque).grid = s.grid ∧
    (s.zeroTorque).steer = s.steer ∧
    (s.zeroTorque).load = s.load ∧
    (s.zeroTorque).scan = s.scan ∧
    (s.zeroTorque).speed = s.speed ∧
    (s.zeroTorque).supervision = s.supervision ∧
    (s.zeroTorque).selfLoad = s.selfLoad ∧
    (s.zeroTorque).trace = s.trace ∧
    (s.zeroTorque).timers = s.timers ∧
    (s.zeroTorque).published = s.published := by
  unfold State.zeroTorque
  try dsimp only
  simp

/-- What `State.enterDisarmed` leaves alone. -/
@[simp] theorem State.enterDisarmed_frame (s : State) :
    (s.enterDisarmed).pending = s.pending ∧
    (s.enterDisarmed).us = s.us ∧
    (s.enterDisarmed).freeCount = s.freeCount ∧
    (s.enterDisarmed).ram = s.ram ∧
    (s.enterDisarmed).settings = s.settings ∧
    (s.enterDisarmed).settled = s.settled ∧
    (s.enterDisarmed).exchange = s.exchange ∧
    (s.enterDisarmed).desk = s.desk ∧
    (s.enterDisarmed).faults = s.faults ∧
    (s.enterDisarmed).grid = s.grid ∧
    (s.enterDisarmed).steer = s.steer ∧
    (s.enterDisarmed).load = s.load ∧
    (s.enterDisarmed).scan = s.scan ∧
    (s.enterDisarmed).speed = s.speed ∧
    (s.enterDisarmed).selfLoad = s.selfLoad ∧
    (s.enterDisarmed).trace = s.trace := by
  unfold State.enterDisarmed
  try dsimp only
  simp

/-- What `State.enterSelfLoad` leaves alone. -/
@[simp] theorem State.enterSelfLoad_frame (s : State) :
    (s.enterSelfLoad).pending = s.pending ∧
    (s.enterSelfLoad).us = s.us ∧
    (s.enterSelfLoad).freeCount = s.freeCount ∧
    (s.enterSelfLoad).ram = s.ram ∧
    (s.enterSelfLoad).settings = s.settings ∧
    (s.enterSelfLoad).settled = s.settled ∧
    (s.enterSelfLoad).exchange = s.exchange ∧
    (s.enterSelfLoad).desk = s.desk ∧
    (s.enterSelfLoad).faults = s.faults ∧
    (s.enterSelfLoad).grid = s.grid ∧
    (s.enterSelfLoad).steer = s.steer ∧
    (s.enterSelfLoad).load = s.load ∧
    (s.enterSelfLoad).scan = s.scan ∧
    (s.enterSelfLoad).speed = s.speed ∧
    (s.enterSelfLoad).selfLoad = s.selfLoad ∧
    (s.enterSelfLoad).trace = s.trace := by
  unfold State.enterSelfLoad
  try dsimp only
  simp

/-- What `State.enterArmed` leaves alone. -/
@[simp] theorem State.enterArmed_frame (s : State) :
    (s.enterArmed).pending = s.pending ∧
    (s.enterArmed).us = s.us ∧
    (s.enterArmed).freeCount = s.freeCount ∧
    (s.enterArmed).ram = s.ram ∧
    (s.enterArmed).settings = s.settings ∧
    (s.enterArmed).settled = s.settled ∧
    (s.enterArmed).exchange = s.exchange ∧
    (s.enterArmed).desk = s.desk ∧
    (s.enterArmed).faults = s.faults ∧
    (s.enterArmed).grid = s.grid ∧
    (s.enterArmed).steer = s.steer ∧
    (s.enterArmed).load = s.load ∧
    (s.enterArmed).link = s.link ∧
    (s.enterArmed).scan = s.scan ∧
    (s.enterArmed).speed = s.speed ∧
    (s.enterArmed).selfLoad = s.selfLoad ∧
    (s.enterArmed).trace = s.trace := by
  unfold State.enterArmed
  try dsimp only
  simp

/-- What `State.returnToArmed` leaves alone. -/
@[simp] theorem State.returnToArmed_frame (s : State) :
    (s.returnToArmed).pending = s.pending ∧
    (s.returnToArmed).us = s.us ∧
    (s.returnToArmed).freeCount = s.freeCount ∧
    (s.returnToArmed).ram = s.ram ∧
    (s.returnToArmed).settings = s.settings ∧
    (s.returnToArmed).settled = s.settled ∧
    (s.returnToArmed).exchange = s.exchange ∧
    (s.returnToArmed).desk = s.desk ∧
    (s.returnToArmed).faults = s.faults ∧
    (s.returnToArmed).grid = s.grid ∧
    (s.returnToArmed).steer = s.steer ∧
    (s.returnToArmed).load = s.load ∧
    (s.returnToArmed).link = s.link ∧
    (s.returnToArmed).scan = s.scan ∧
    (s.returnToArmed).speed = s.speed ∧
    (s.returnToArmed).selfLoad = s.selfLoad ∧
    (s.returnToArmed).trace = s.trace := by
  unfold State.returnToArmed
  try dsimp only
  simp

/-- What `State.requestHalt` leaves alone. -/
@[simp] theorem State.requestHalt_frame (s : State) :
    (s.requestHalt).pending = s.pending ∧
    (s.requestHalt).us = s.us ∧
    (s.requestHalt).freeCount = s.freeCount ∧
    (s.requestHalt).ram = s.ram ∧
    (s.requestHalt).window = s.window ∧
    (s.requestHalt).settings = s.settings ∧
    (s.requestHalt).settled = s.settled ∧
    (s.requestHalt).exchange = s.exchange ∧
    (s.requestHalt).desk = s.desk ∧
    (s.requestHalt).faults = s.faults ∧
    (s.requestHalt).rows = s.rows ∧
    (s.requestHalt).drive = s.drive ∧
    (s.requestHalt).grid = s.grid ∧
    (s.requestHalt).steer = s.steer ∧
    (s.requestHalt).load = s.load ∧
    (s.requestHalt).scan = s.scan ∧
    (s.requestHalt).speed = s.speed ∧
    (s.requestHalt).supervision = s.supervision ∧
    (s.requestHalt).selfLoad = s.selfLoad ∧
    (s.requestHalt).trace = s.trace ∧
    (s.requestHalt).timers = s.timers ∧
    (s.requestHalt).published = s.published := by
  unfold State.requestHalt
  try dsimp only
  (repeat' split) <;> simp

/-- What `State.trip` leaves alone. -/
@[simp] theorem State.trip_frame (s : State) (c : FaultCode) :
    (s.trip c).pending = s.pending ∧
    (s.trip c).us = s.us ∧
    (s.trip c).freeCount = s.freeCount ∧
    (s.trip c).ram = s.ram ∧
    (s.trip c).settings = s.settings ∧
    (s.trip c).settled = s.settled ∧
    (s.trip c).exchange = s.exchange ∧
    (s.trip c).desk = s.desk ∧
    (s.trip c).faults = s.faults ∧
    (s.trip c).grid = s.grid ∧
    (s.trip c).steer = s.steer ∧
    (s.trip c).load = s.load ∧
    (s.trip c).scan = s.scan ∧
    (s.trip c).speed = s.speed ∧
    (s.trip c).selfLoad = s.selfLoad ∧
    (s.trip c).trace = s.trace := by
  unfold State.trip
  try dsimp only
  (repeat' split) <;> simp

/-- What `State.putFault` leaves alone. -/
@[simp] theorem State.putFault_frame (s : State) (c : FaultCode) (r : FaultRecord) :
    (s.putFault c r).pending = s.pending ∧
    (s.putFault c r).us = s.us ∧
    (s.putFault c r).freeCount = s.freeCount ∧
    (s.putFault c r).window = s.window ∧
    (s.putFault c r).settings = s.settings ∧
    (s.putFault c r).settled = s.settled ∧
    (s.putFault c r).exchange = s.exchange ∧
    (s.putFault c r).desk = s.desk ∧
    (s.putFault c r).rows = s.rows ∧
    (s.putFault c r).drive = s.drive ∧
    (s.putFault c r).grid = s.grid ∧
    (s.putFault c r).steer = s.steer ∧
    (s.putFault c r).load = s.load ∧
    (s.putFault c r).link = s.link ∧
    (s.putFault c r).scan = s.scan ∧
    (s.putFault c r).speed = s.speed ∧
    (s.putFault c r).supervision = s.supervision ∧
    (s.putFault c r).selfLoad = s.selfLoad ∧
    (s.putFault c r).trace = s.trace ∧
    (s.putFault c r).timers = s.timers ∧
    (s.putFault c r).published = s.published := by
  unfold State.putFault
  try dsimp only
  simp

/-- What `State.reportPresent` leaves alone. -/
@[simp] theorem State.reportPresent_frame (s : State) (c : FaultCode) (detail : Nat) :
    (s.reportPresent c detail).pending = s.pending ∧
    (s.reportPresent c detail).us = s.us ∧
    (s.reportPresent c detail).freeCount = s.freeCount ∧
    (s.reportPresent c detail).settings = s.settings ∧
    (s.reportPresent c detail).settled = s.settled ∧
    (s.reportPresent c detail).exchange = s.exchange ∧
    (s.reportPresent c detail).desk = s.desk ∧
    (s.reportPresent c detail).grid = s.grid ∧
    (s.reportPresent c detail).steer = s.steer ∧
    (s.reportPresent c detail).load = s.load ∧
    (s.reportPresent c detail).scan = s.scan ∧
    (s.reportPresent c detail).speed = s.speed ∧
    (s.reportPresent c detail).selfLoad = s.selfLoad ∧
    (s.reportPresent c detail).trace = s.trace := by
  unfold State.reportPresent
  try dsimp only
  (repeat' split) <;> simp

/-- What `State.reportAbsent` leaves alone. -/
@[simp] theorem State.reportAbsent_frame (s : State) (c : FaultCode) :
    (s.reportAbsent c).pending = s.pending ∧
    (s.reportAbsent c).us = s.us ∧
    (s.reportAbsent c).freeCount = s.freeCount ∧
    (s.reportAbsent c).window = s.window ∧
    (s.reportAbsent c).settings = s.settings ∧
    (s.reportAbsent c).settled = s.settled ∧
    (s.reportAbsent c).exchange = s.exchange ∧
    (s.reportAbsent c).desk = s.desk ∧
    (s.reportAbsent c).rows = s.rows ∧
    (s.reportAbsent c).drive = s.drive ∧
    (s.reportAbsent c).grid = s.grid ∧
    (s.reportAbsent c).steer = s.steer ∧
    (s.reportAbsent c).load = s.load ∧
    (s.reportAbsent c).link = s.link ∧
    (s.reportAbsent c).scan = s.scan ∧
    (s.reportAbsent c).speed = s.speed ∧
    (s.reportAbsent c).supervision = s.supervision ∧
    (s.reportAbsent c).selfLoad = s.selfLoad ∧
    (s.reportAbsent c).trace = s.trace ∧
    (s.reportAbsent c).timers = s.timers ∧
    (s.reportAbsent c).published = s.published := by
  unfold State.reportAbsent
  try dsimp only
  (repeat' split) <;> simp

/-- What `State.report` leaves alone. -/
@[simp] theorem State.report_frame (s : State) (c : FaultCode) (present : Bool) (detail : Nat) :
    (s.report c present detail).pending = s.pending ∧
    (s.report c present detail).us = s.us ∧
    (s.report c present detail).freeCount = s.freeCount ∧
    (s.report c present detail).settings = s.settings ∧
    (s.report c present detail).settled = s.settled ∧
    (s.report c present detail).exchange = s.exchange ∧
    (s.report c present detail).desk = s.desk ∧
    (s.report c present detail).grid = s.grid ∧
    (s.report c present detail).steer = s.steer ∧
    (s.report c present detail).load = s.load ∧
    (s.report c present detail).scan = s.scan ∧
    (s.report c present detail).speed = s.speed ∧
    (s.report c present detail).selfLoad = s.selfLoad ∧
    (s.report c present detail).trace = s.trace := by
  unfold State.report
  try dsimp only
  (repeat' split) <;> simp

/-- What `State.latchFault` leaves alone. -/
@[simp] theorem State.latchFault_frame (s : State) (c : FaultCode) (detail : Nat) :
    (s.latchFault c detail).pending = s.pending ∧
    (s.latchFault c detail).us = s.us ∧
    (s.latchFault c detail).freeCount = s.freeCount ∧
    (s.latchFault c detail).settings = s.settings ∧
    (s.latchFault c detail).settled = s.settled ∧
    (s.latchFault c detail).exchange = s.exchange ∧
    (s.latchFault c detail).desk = s.desk ∧
    (s.latchFault c detail).grid = s.grid ∧
    (s.latchFault c detail).steer = s.steer ∧
    (s.latchFault c detail).load = s.load ∧
    (s.latchFault c detail).scan = s.scan ∧
    (s.latchFault c detail).speed = s.speed ∧
    (s.latchFault c detail).selfLoad = s.selfLoad ∧
    (s.latchFault c detail).trace = s.trace := by
  unfold State.latchFault
  try dsimp only
  simp

/-- What `State.complete` leaves alone. -/
@[simp] theorem State.complete_frame (s : State) (slot : Fin 16) (r : Result) (detail : List Word) :
    (s.complete slot r detail).pending = s.pending ∧
    (s.complete slot r detail).us = s.us ∧
    (s.complete slot r detail).freeCount = s.freeCount ∧
    (s.complete slot r detail).settings = s.settings ∧
    (s.complete slot r detail).settled = s.settled ∧
    (s.complete slot r detail).exchange = s.exchange ∧
    (s.complete slot r detail).desk = s.desk ∧
    (s.complete slot r detail).faults = s.faults ∧
    (s.complete slot r detail).rows = s.rows ∧
    (s.complete slot r detail).drive = s.drive ∧
    (s.complete slot r detail).grid = s.grid ∧
    (s.complete slot r detail).steer = s.steer ∧
    (s.complete slot r detail).load = s.load ∧
    (s.complete slot r detail).link = s.link ∧
    (s.complete slot r detail).scan = s.scan ∧
    (s.complete slot r detail).speed = s.speed ∧
    (s.complete slot r detail).supervision = s.supervision ∧
    (s.complete slot r detail).selfLoad = s.selfLoad ∧
    (s.complete slot r detail).trace = s.trace ∧
    (s.complete slot r detail).timers = s.timers ∧
    (s.complete slot r detail).published = s.published := by
  unfold State.complete
  try dsimp only
  simp

/-- What `State.takeOrder` leaves alone. -/
@[simp] theorem State.takeOrder_frame (s : State) (slot : Fin 16) :
    (s.takeOrder slot).1.pending = s.pending ∧
    (s.takeOrder slot).1.us = s.us ∧
    (s.takeOrder slot).1.freeCount = s.freeCount ∧
    (s.takeOrder slot).1.window = s.window ∧
    (s.takeOrder slot).1.settings = s.settings ∧
    (s.takeOrder slot).1.settled = s.settled ∧
    (s.takeOrder slot).1.exchange = s.exchange ∧
    (s.takeOrder slot).1.desk = s.desk ∧
    (s.takeOrder slot).1.faults = s.faults ∧
    (s.takeOrder slot).1.rows = s.rows ∧
    (s.takeOrder slot).1.drive = s.drive ∧
    (s.takeOrder slot).1.grid = s.grid ∧
    (s.takeOrder slot).1.steer = s.steer ∧
    (s.takeOrder slot).1.load = s.load ∧
    (s.takeOrder slot).1.link = s.link ∧
    (s.takeOrder slot).1.scan = s.scan ∧
    (s.takeOrder slot).1.speed = s.speed ∧
    (s.takeOrder slot).1.supervision = s.supervision ∧
    (s.takeOrder slot).1.selfLoad = s.selfLoad ∧
    (s.takeOrder slot).1.trace = s.trace ∧
    (s.takeOrder slot).1.timers = s.timers ∧
    (s.takeOrder slot).1.published = s.published := by
  unfold State.takeOrder
  try dsimp only
  simp

/-- What `State.setStation` leaves alone. -/
@[simp] theorem State.setStation_frame (s : State) (n : StationId) (x : Station) :
    (s.setStation n x).pending = s.pending ∧
    (s.setStation n x).us = s.us ∧
    (s.setStation n x).freeCount = s.freeCount ∧
    (s.setStation n x).ram = s.ram ∧
    (s.setStation n x).window = s.window ∧
    (s.setStation n x).settings = s.settings ∧
    (s.setStation n x).settled = s.settled ∧
    (s.setStation n x).exchange = s.exchange ∧
    (s.setStation n x).desk = s.desk ∧
    (s.setStation n x).faults = s.faults ∧
    (s.setStation n x).rows = s.rows ∧
    (s.setStation n x).drive = s.drive ∧
    (s.setStation n x).grid = s.grid ∧
    (s.setStation n x).steer = s.steer ∧
    (s.setStation n x).load = s.load ∧
    (s.setStation n x).scan = s.scan ∧
    (s.setStation n x).speed = s.speed ∧
    (s.setStation n x).supervision = s.supervision ∧
    (s.setStation n x).selfLoad = s.selfLoad ∧
    (s.setStation n x).trace = s.trace ∧
    (s.setStation n x).timers = s.timers ∧
    (s.setStation n x).published = s.published := by
  unfold State.setStation
  try dsimp only
  simp

/-- What `State.setBank` leaves alone. -/
@[simp] theorem State.setBank_frame (s : State) (k : BankId) (x : Bank) :
    (s.setBank k x).pending = s.pending ∧
    (s.setBank k x).us = s.us ∧
    (s.setBank k x).freeCount = s.freeCount ∧
    (s.setBank k x).ram = s.ram ∧
    (s.setBank k x).window = s.window ∧
    (s.setBank k x).settings = s.settings ∧
    (s.setBank k x).settled = s.settled ∧
    (s.setBank k x).exchange = s.exchange ∧
    (s.setBank k x).desk = s.desk ∧
    (s.setBank k x).faults = s.faults ∧
    (s.setBank k x).rows = s.rows ∧
    (s.setBank k x).drive = s.drive ∧
    (s.setBank k x).steer = s.steer ∧
    (s.setBank k x).load = s.load ∧
    (s.setBank k x).link = s.link ∧
    (s.setBank k x).scan = s.scan ∧
    (s.setBank k x).speed = s.speed ∧
    (s.setBank k x).supervision = s.supervision ∧
    (s.setBank k x).selfLoad = s.selfLoad ∧
    (s.setBank k x).trace = s.trace ∧
    (s.setBank k x).timers = s.timers ∧
    (s.setBank k x).published = s.published := by
  unfold State.setBank
  try dsimp only
  (repeat' split) <;> simp

end Sys2Proof.Machine
end

