-- ==== Sys2Proof/Laws/FrameSelfLoadTest.lean ====
section
/-! SUPPORT. What each operation of Machine/SelfLoadTest.lean leaves alone: every field of the State that it does not name
keeps its value. -/

namespace Sys2Proof.Machine

/-- What `State.publishSelfLoad` leaves alone. -/
@[simp] theorem State.publishSelfLoad_frame (s : State) :
    (s.publishSelfLoad).pending = s.pending ∧
    (s.publishSelfLoad).us = s.us ∧
    (s.publishSelfLoad).freeCount = s.freeCount ∧
    (s.publishSelfLoad).ram = s.ram ∧
    (s.publishSelfLoad).window = s.window ∧
    (s.publishSelfLoad).settings = s.settings ∧
    (s.publishSelfLoad).settled = s.settled ∧
    (s.publishSelfLoad).exchange = s.exchange ∧
    (s.publishSelfLoad).desk = s.desk ∧
    (s.publishSelfLoad).faults = s.faults ∧
    (s.publishSelfLoad).rows = s.rows ∧
    (s.publishSelfLoad).drive = s.drive ∧
    (s.publishSelfLoad).grid = s.grid ∧
    (s.publishSelfLoad).steer = s.steer ∧
    (s.publishSelfLoad).load = s.load ∧
    (s.publishSelfLoad).link = s.link ∧
    (s.publishSelfLoad).scan = s.scan ∧
    (s.publishSelfLoad).speed = s.speed ∧
    (s.publishSelfLoad).supervision = s.supervision ∧
    (s.publishSelfLoad).selfLoad = s.selfLoad ∧
    (s.publishSelfLoad).trace = s.trace ∧
    (s.publishSelfLoad).timers = s.timers := by
  unfold State.publishSelfLoad
  try dsimp only
  simp

/-- What `State.putHeader` leaves alone. -/
@[simp] theorem State.putHeader_frame (s : State) (h : ResultHeader) :
    (s.putHeader h).pending = s.pending ∧
    (s.putHeader h).us = s.us ∧
    (s.putHeader h).freeCount = s.freeCount ∧
    (s.putHeader h).window = s.window ∧
    (s.putHeader h).settings = s.settings ∧
    (s.putHeader h).settled = s.settled ∧
    (s.putHeader h).exchange = s.exchange ∧
    (s.putHeader h).desk = s.desk ∧
    (s.putHeader h).faults = s.faults ∧
    (s.putHeader h).rows = s.rows ∧
    (s.putHeader h).drive = s.drive ∧
    (s.putHeader h).grid = s.grid ∧
    (s.putHeader h).steer = s.steer ∧
    (s.putHeader h).load = s.load ∧
    (s.putHeader h).link = s.link ∧
    (s.putHeader h).scan = s.scan ∧
    (s.putHeader h).speed = s.speed ∧
    (s.putHeader h).supervision = s.supervision ∧
    (s.putHeader h).trace = s.trace ∧
    (s.putHeader h).timers = s.timers ∧
    (s.putHeader h).published = s.published := by
  unfold State.putHeader
  try dsimp only
  simp

/-- What `State.beginStep` leaves alone. -/
@[simp] theorem State.beginStep_frame (s : State) (i : Nat) :
    (s.beginStep i).pending = s.pending ∧
    (s.beginStep i).us = s.us ∧
    (s.beginStep i).freeCount = s.freeCount ∧
    (s.beginStep i).window = s.window ∧
    (s.beginStep i).settings = s.settings ∧
    (s.beginStep i).settled = s.settled ∧
    (s.beginStep i).exchange = s.exchange ∧
    (s.beginStep i).desk = s.desk ∧
    (s.beginStep i).faults = s.faults ∧
    (s.beginStep i).rows = s.rows ∧
    (s.beginStep i).drive = s.drive ∧
    (s.beginStep i).grid = s.grid ∧
    (s.beginStep i).steer = s.steer ∧
    (s.beginStep i).load = s.load ∧
    (s.beginStep i).link = s.link ∧
    (s.beginStep i).scan = s.scan ∧
    (s.beginStep i).speed = s.speed ∧
    (s.beginStep i).supervision = s.supervision ∧
    (s.beginStep i).trace = s.trace := by
  unfold State.beginStep
  try dsimp only
  (repeat' split) <;> simp

/-- What `State.closeStep` leaves alone. -/
@[simp] theorem State.closeStep_frame (s : State) (cut : Bool) :
    (s.closeStep cut).pending = s.pending ∧
    (s.closeStep cut).us = s.us ∧
    (s.closeStep cut).freeCount = s.freeCount ∧
    (s.closeStep cut).window = s.window ∧
    (s.closeStep cut).settings = s.settings ∧
    (s.closeStep cut).settled = s.settled ∧
    (s.closeStep cut).exchange = s.exchange ∧
    (s.closeStep cut).desk = s.desk ∧
    (s.closeStep cut).faults = s.faults ∧
    (s.closeStep cut).rows = s.rows ∧
    (s.closeStep cut).drive = s.drive ∧
    (s.closeStep cut).grid = s.grid ∧
    (s.closeStep cut).steer = s.steer ∧
    (s.closeStep cut).load = s.load ∧
    (s.closeStep cut).link = s.link ∧
    (s.closeStep cut).scan = s.scan ∧
    (s.closeStep cut).speed = s.speed ∧
    (s.closeStep cut).supervision = s.supervision ∧
    (s.closeStep cut).trace = s.trace ∧
    (s.closeStep cut).timers = s.timers ∧
    (s.closeStep cut).published = s.published := by
  unfold State.closeStep
  try dsimp only
  (repeat' split) <;> simp

/-- What `State.beginPhase` leaves alone. -/
@[simp] theorem State.beginPhase_frame (s : State) (p : Phase) (ms : Nat) :
    (s.beginPhase p ms).pending = s.pending ∧
    (s.beginPhase p ms).us = s.us ∧
    (s.beginPhase p ms).freeCount = s.freeCount ∧
    (s.beginPhase p ms).ram = s.ram ∧
    (s.beginPhase p ms).window = s.window ∧
    (s.beginPhase p ms).settings = s.settings ∧
    (s.beginPhase p ms).settled = s.settled ∧
    (s.beginPhase p ms).exchange = s.exchange ∧
    (s.beginPhase p ms).desk = s.desk ∧
    (s.beginPhase p ms).faults = s.faults ∧
    (s.beginPhase p ms).rows = s.rows ∧
    (s.beginPhase p ms).drive = s.drive ∧
    (s.beginPhase p ms).grid = s.grid ∧
    (s.beginPhase p ms).steer = s.steer ∧
    (s.beginPhase p ms).load = s.load ∧
    (s.beginPhase p ms).link = s.link ∧
    (s.beginPhase p ms).scan = s.scan ∧
    (s.beginPhase p ms).speed = s.speed ∧
    (s.beginPhase p ms).supervision = s.supervision ∧
    (s.beginPhase p ms).trace = s.trace ∧
    (s.beginPhase p ms).published = s.published := by
  unfold State.beginPhase
  try dsimp only
  simp

/-- What `State.beginBody` leaves alone. -/
@[simp] theorem State.beginBody_frame (s : State) :
    (s.beginBody).pending = s.pending ∧
    (s.beginBody).us = s.us ∧
    (s.beginBody).freeCount = s.freeCount ∧
    (s.beginBody).window = s.window ∧
    (s.beginBody).settings = s.settings ∧
    (s.beginBody).settled = s.settled ∧
    (s.beginBody).exchange = s.exchange ∧
    (s.beginBody).desk = s.desk ∧
    (s.beginBody).faults = s.faults ∧
    (s.beginBody).rows = s.rows ∧
    (s.beginBody).drive = s.drive ∧
    (s.beginBody).grid = s.grid ∧
    (s.beginBody).steer = s.steer ∧
    (s.beginBody).load = s.load ∧
    (s.beginBody).link = s.link ∧
    (s.beginBody).scan = s.scan ∧
    (s.beginBody).speed = s.speed ∧
    (s.beginBody).supervision = s.supervision ∧
    (s.beginBody).trace = s.trace := by
  unfold State.beginBody
  try dsimp only
  simp

/-- What `State.zeroDuties` leaves alone. -/
@[simp] theorem State.zeroDuties_frame (s : State) :
    (s.zeroDuties).pending = s.pending ∧
    (s.zeroDuties).us = s.us ∧
    (s.zeroDuties).freeCount = s.freeCount ∧
    (s.zeroDuties).ram = s.ram ∧
    (s.zeroDuties).window = s.window ∧
    (s.zeroDuties).settings = s.settings ∧
    (s.zeroDuties).settled = s.settled ∧
    (s.zeroDuties).exchange = s.exchange ∧
    (s.zeroDuties).desk = s.desk ∧
    (s.zeroDuties).faults = s.faults ∧
    (s.zeroDuties).rows = s.rows ∧
    (s.zeroDuties).drive = s.drive ∧
    (s.zeroDuties).grid = s.grid ∧
    (s.zeroDuties).steer = s.steer ∧
    (s.zeroDuties).load = s.load ∧
    (s.zeroDuties).scan = s.scan ∧
    (s.zeroDuties).speed = s.speed ∧
    (s.zeroDuties).supervision = s.supervision ∧
    (s.zeroDuties).trace = s.trace ∧
    (s.zeroDuties).timers = s.timers ∧
    (s.zeroDuties).published = s.published := by
  unfold State.zeroDuties
  try dsimp only
  simp

/-- What `State.toIdle` leaves alone. -/
@[simp] theorem State.toIdle_frame (s : State) :
    (s.toIdle).pending = s.pending ∧
    (s.toIdle).us = s.us ∧
    (s.toIdle).freeCount = s.freeCount ∧
    (s.toIdle).ram = s.ram ∧
    (s.toIdle).window = s.window ∧
    (s.toIdle).settings = s.settings ∧
    (s.toIdle).settled = s.settled ∧
    (s.toIdle).exchange = s.exchange ∧
    (s.toIdle).desk = s.desk ∧
    (s.toIdle).faults = s.faults ∧
    (s.toIdle).rows = s.rows ∧
    (s.toIdle).drive = s.drive ∧
    (s.toIdle).grid = s.grid ∧
    (s.toIdle).steer = s.steer ∧
    (s.toIdle).load = s.load ∧
    (s.toIdle).link = s.link ∧
    (s.toIdle).scan = s.scan ∧
    (s.toIdle).speed = s.speed ∧
    (s.toIdle).supervision = s.supervision ∧
    (s.toIdle).trace = s.trace ∧
    (s.toIdle).published = s.published := by
  unfold State.toIdle
  try dsimp only
  simp

/-- What `State.completeStart` leaves alone. -/
@[simp] theorem State.completeStart_frame (s : State) (r : Result) (detail : List Word) :
    (s.completeStart r detail).pending = s.pending ∧
    (s.completeStart r detail).us = s.us ∧
    (s.completeStart r detail).freeCount = s.freeCount ∧
    (s.completeStart r detail).settings = s.settings ∧
    (s.completeStart r detail).settled = s.settled ∧
    (s.completeStart r detail).exchange = s.exchange ∧
    (s.completeStart r detail).faults = s.faults ∧
    (s.completeStart r detail).rows = s.rows ∧
    (s.completeStart r detail).drive = s.drive ∧
    (s.completeStart r detail).grid = s.grid ∧
    (s.completeStart r detail).steer = s.steer ∧
    (s.completeStart r detail).load = s.load ∧
    (s.completeStart r detail).link = s.link ∧
    (s.completeStart r detail).scan = s.scan ∧
    (s.completeStart r detail).speed = s.speed ∧
    (s.completeStart r detail).supervision = s.supervision ∧
    (s.completeStart r detail).selfLoad = s.selfLoad ∧
    (s.completeStart r detail).trace = s.trace ∧
    (s.completeStart r detail).timers = s.timers ∧
    (s.completeStart r detail).published = s.published := by
  unfold State.completeStart
  try dsimp only
  (repeat' split) <;> simp

/-- What `State.endPattern` leaves alone. -/
@[simp] theorem State.endPattern_frame (s : State) :
    (s.endPattern).pending = s.pending ∧
    (s.endPattern).us = s.us ∧
    (s.endPattern).freeCount = s.freeCount ∧
    (s.endPattern).settings = s.settings ∧
    (s.endPattern).settled = s.settled ∧
    (s.endPattern).exchange = s.exchange ∧
    (s.endPattern).faults = s.faults ∧
    (s.endPattern).grid = s.grid ∧
    (s.endPattern).steer = s.steer ∧
    (s.endPattern).load = s.load ∧
    (s.endPattern).scan = s.scan ∧
    (s.endPattern).speed = s.speed ∧
    (s.endPattern).trace = s.trace := by
  unfold State.endPattern
  try dsimp only
  simp

/-- What `State.abortWithoutMode` leaves alone. -/
@[simp] theorem State.abortWithoutMode_frame (s : State) (c : AbortCause) :
    (s.abortWithoutMode c).pending = s.pending ∧
    (s.abortWithoutMode c).us = s.us ∧
    (s.abortWithoutMode c).freeCount = s.freeCount ∧
    (s.abortWithoutMode c).settings = s.settings ∧
    (s.abortWithoutMode c).settled = s.settled ∧
    (s.abortWithoutMode c).exchange = s.exchange ∧
    (s.abortWithoutMode c).faults = s.faults ∧
    (s.abortWithoutMode c).rows = s.rows ∧
    (s.abortWithoutMode c).drive = s.drive ∧
    (s.abortWithoutMode c).grid = s.grid ∧
    (s.abortWithoutMode c).steer = s.steer ∧
    (s.abortWithoutMode c).load = s.load ∧
    (s.abortWithoutMode c).scan = s.scan ∧
    (s.abortWithoutMode c).speed = s.speed ∧
    (s.abortWithoutMode c).supervision = s.supervision ∧
    (s.abortWithoutMode c).trace = s.trace := by
  unfold State.abortWithoutMode
  try dsimp only
  (repeat' split) <;> simp

/-- What `State.abortTest` leaves alone. -/
@[simp] theorem State.abortTest_frame (s : State) (c : AbortCause) :
    (s.abortTest c).pending = s.pending ∧
    (s.abortTest c).us = s.us ∧
    (s.abortTest c).freeCount = s.freeCount ∧
    (s.abortTest c).settings = s.settings ∧
    (s.abortTest c).settled = s.settled ∧
    (s.abortTest c).exchange = s.exchange ∧
    (s.abortTest c).faults = s.faults ∧
    (s.abortTest c).grid = s.grid ∧
    (s.abortTest c).steer = s.steer ∧
    (s.abortTest c).load = s.load ∧
    (s.abortTest c).scan = s.scan ∧
    (s.abortTest c).speed = s.speed ∧
    (s.abortTest c).trace = s.trace := by
  unfold State.abortTest
  try dsimp only
  (repeat' split) <;> simp

/-- What `State.endPhase` leaves alone. -/
@[simp] theorem State.endPhase_frame (s : State) :
    (s.endPhase).pending = s.pending ∧
    (s.endPhase).us = s.us ∧
    (s.endPhase).freeCount = s.freeCount ∧
    (s.endPhase).settings = s.settings ∧
    (s.endPhase).settled = s.settled ∧
    (s.endPhase).exchange = s.exchange ∧
    (s.endPhase).faults = s.faults ∧
    (s.endPhase).grid = s.grid ∧
    (s.endPhase).steer = s.steer ∧
    (s.endPhase).load = s.load ∧
    (s.endPhase).scan = s.scan ∧
    (s.endPhase).speed = s.speed ∧
    (s.endPhase).trace = s.trace := by
  unfold State.endPhase
  try dsimp only
  (repeat' split) <;> simp

/-- What `State.endStep` leaves alone. -/
@[simp] theorem State.endStep_frame (s : State) :
    (s.endStep).pending = s.pending ∧
    (s.endStep).us = s.us ∧
    (s.endStep).freeCount = s.freeCount ∧
    (s.endStep).window = s.window ∧
    (s.endStep).settings = s.settings ∧
    (s.endStep).settled = s.settled ∧
    (s.endStep).exchange = s.exchange ∧
    (s.endStep).desk = s.desk ∧
    (s.endStep).faults = s.faults ∧
    (s.endStep).rows = s.rows ∧
    (s.endStep).drive = s.drive ∧
    (s.endStep).grid = s.grid ∧
    (s.endStep).steer = s.steer ∧
    (s.endStep).load = s.load ∧
    (s.endStep).link = s.link ∧
    (s.endStep).scan = s.scan ∧
    (s.endStep).speed = s.speed ∧
    (s.endStep).supervision = s.supervision ∧
    (s.endStep).trace = s.trace := by
  unfold State.endStep
  try dsimp only
  (repeat' split) <;> simp

/-- What `State.acceptStart` leaves alone. -/
@[simp] theorem State.acceptStart_frame (s : State) (o : HeldOrder) :
    (s.acceptStart o).pending = s.pending ∧
    (s.acceptStart o).us = s.us ∧
    (s.acceptStart o).freeCount = s.freeCount ∧
    (s.acceptStart o).settings = s.settings ∧
    (s.acceptStart o).settled = s.settled ∧
    (s.acceptStart o).exchange = s.exchange ∧
    (s.acceptStart o).faults = s.faults ∧
    (s.acceptStart o).steer = s.steer ∧
    (s.acceptStart o).load = s.load ∧
    (s.acceptStart o).scan = s.scan ∧
    (s.acceptStart o).speed = s.speed ∧
    (s.acceptStart o).trace = s.trace := by
  unfold State.acceptStart
  try dsimp only
  (repeat' split) <;> simp

/-- What `State.handStart` leaves alone. -/
@[simp] theorem State.handStart_frame (s : State) (o : HeldOrder) :
    (s.handStart o).pending = s.pending ∧
    (s.handStart o).us = s.us ∧
    (s.handStart o).freeCount = s.freeCount ∧
    (s.handStart o).settings = s.settings ∧
    (s.handStart o).settled = s.settled ∧
    (s.handStart o).exchange = s.exchange ∧
    (s.handStart o).faults = s.faults ∧
    (s.handStart o).steer = s.steer ∧
    (s.handStart o).load = s.load ∧
    (s.handStart o).scan = s.scan ∧
    (s.handStart o).speed = s.speed ∧
    (s.handStart o).trace = s.trace := by
  unfold State.handStart
  try dsimp only
  (repeat' split) <;> simp

/-- What `State.handStop` leaves alone. -/
@[simp] theorem State.handStop_frame (s : State) (o : HeldOrder) :
    (s.handStop o).pending = s.pending ∧
    (s.handStop o).us = s.us ∧
    (s.handStop o).freeCount = s.freeCount ∧
    (s.handStop o).settings = s.settings ∧
    (s.handStop o).settled = s.settled ∧
    (s.handStop o).exchange = s.exchange ∧
    (s.handStop o).faults = s.faults ∧
    (s.handStop o).grid = s.grid ∧
    (s.handStop o).steer = s.steer ∧
    (s.handStop o).load = s.load ∧
    (s.handStop o).scan = s.scan ∧
    (s.handStop o).speed = s.speed ∧
    (s.handStop o).trace = s.trace := by
  unfold State.handStop
  try dsimp only
  (repeat' split) <;> simp

/-- What `State.addStepSums` leaves alone. -/
@[simp] theorem State.addStepSums_frame (s : State) :
    (s.addStepSums).pending = s.pending ∧
    (s.addStepSums).us = s.us ∧
    (s.addStepSums).freeCount = s.freeCount ∧
    (s.addStepSums).ram = s.ram ∧
    (s.addStepSums).window = s.window ∧
    (s.addStepSums).settings = s.settings ∧
    (s.addStepSums).settled = s.settled ∧
    (s.addStepSums).exchange = s.exchange ∧
    (s.addStepSums).desk = s.desk ∧
    (s.addStepSums).faults = s.faults ∧
    (s.addStepSums).rows = s.rows ∧
    (s.addStepSums).drive = s.drive ∧
    (s.addStepSums).grid = s.grid ∧
    (s.addStepSums).steer = s.steer ∧
    (s.addStepSums).load = s.load ∧
    (s.addStepSums).link = s.link ∧
    (s.addStepSums).scan = s.scan ∧
    (s.addStepSums).speed = s.speed ∧
    (s.addStepSums).supervision = s.supervision ∧
    (s.addStepSums).trace = s.trace ∧
    (s.addStepSums).timers = s.timers ∧
    (s.addStepSums).published = s.published := by
  unfold State.addStepSums
  try dsimp only
  (repeat' split) <;> simp

end Sys2Proof.Machine
end

