-- ==== Sys2Proof/Laws/FrameSupervisionMonitor.lean ====
section
/-! SUPPORT. What each operation of Machine/SupervisionMonitor.lean leaves alone: every field of the State that it does not name
keeps its value. -/

namespace Sys2Proof.Machine

/-- What `State.startLongWindow` leaves alone. -/
@[simp] theorem State.startLongWindow_frame (s : State) :
    (s.startLongWindow).pending = s.pending ∧
    (s.startLongWindow).us = s.us ∧
    (s.startLongWindow).freeCount = s.freeCount ∧
    (s.startLongWindow).ram = s.ram ∧
    (s.startLongWindow).window = s.window ∧
    (s.startLongWindow).settings = s.settings ∧
    (s.startLongWindow).settled = s.settled ∧
    (s.startLongWindow).exchange = s.exchange ∧
    (s.startLongWindow).desk = s.desk ∧
    (s.startLongWindow).faults = s.faults ∧
    (s.startLongWindow).rows = s.rows ∧
    (s.startLongWindow).drive = s.drive ∧
    (s.startLongWindow).grid = s.grid ∧
    (s.startLongWindow).steer = s.steer ∧
    (s.startLongWindow).load = s.load ∧
    (s.startLongWindow).link = s.link ∧
    (s.startLongWindow).scan = s.scan ∧
    (s.startLongWindow).speed = s.speed ∧
    (s.startLongWindow).selfLoad = s.selfLoad ∧
    (s.startLongWindow).trace = s.trace ∧
    (s.startLongWindow).published = s.published := by
  unfold State.startLongWindow
  try dsimp only
  simp

/-- What `State.startZone` leaves alone. -/
@[simp] theorem State.startZone_frame (s : State) :
    (s.startZone).pending = s.pending ∧
    (s.startZone).us = s.us ∧
    (s.startZone).freeCount = s.freeCount ∧
    (s.startZone).ram = s.ram ∧
    (s.startZone).window = s.window ∧
    (s.startZone).settings = s.settings ∧
    (s.startZone).settled = s.settled ∧
    (s.startZone).exchange = s.exchange ∧
    (s.startZone).desk = s.desk ∧
    (s.startZone).faults = s.faults ∧
    (s.startZone).rows = s.rows ∧
    (s.startZone).drive = s.drive ∧
    (s.startZone).grid = s.grid ∧
    (s.startZone).steer = s.steer ∧
    (s.startZone).load = s.load ∧
    (s.startZone).link = s.link ∧
    (s.startZone).scan = s.scan ∧
    (s.startZone).speed = s.speed ∧
    (s.startZone).selfLoad = s.selfLoad ∧
    (s.startZone).trace = s.trace ∧
    (s.startZone).published = s.published := by
  unfold State.startZone
  try dsimp only
  simp

/-- What `State.enterFallback` leaves alone. -/
@[simp] theorem State.enterFallback_frame (s : State) :
    (s.enterFallback).pending = s.pending ∧
    (s.enterFallback).us = s.us ∧
    (s.enterFallback).freeCount = s.freeCount ∧
    (s.enterFallback).ram = s.ram ∧
    (s.enterFallback).settings = s.settings ∧
    (s.enterFallback).settled = s.settled ∧
    (s.enterFallback).exchange = s.exchange ∧
    (s.enterFallback).desk = s.desk ∧
    (s.enterFallback).faults = s.faults ∧
    (s.enterFallback).grid = s.grid ∧
    (s.enterFallback).steer = s.steer ∧
    (s.enterFallback).load = s.load ∧
    (s.enterFallback).link = s.link ∧
    (s.enterFallback).scan = s.scan ∧
    (s.enterFallback).speed = s.speed ∧
    (s.enterFallback).selfLoad = s.selfLoad ∧
    (s.enterFallback).trace = s.trace := by
  unfold State.enterFallback
  try dsimp only
  simp

/-- What `State.failureInMode` leaves alone. -/
@[simp] theorem State.failureInMode_frame (s : State) :
    (s.failureInMode).pending = s.pending ∧
    (s.failureInMode).us = s.us ∧
    (s.failureInMode).freeCount = s.freeCount ∧
    (s.failureInMode).settings = s.settings ∧
    (s.failureInMode).settled = s.settled ∧
    (s.failureInMode).exchange = s.exchange ∧
    (s.failureInMode).faults = s.faults ∧
    (s.failureInMode).grid = s.grid ∧
    (s.failureInMode).steer = s.steer ∧
    (s.failureInMode).load = s.load ∧
    (s.failureInMode).scan = s.scan ∧
    (s.failureInMode).speed = s.speed ∧
    (s.failureInMode).trace = s.trace := by
  unfold State.failureInMode
  try dsimp only
  (repeat' split) <;> simp

/-- What `State.failSupervision` leaves alone. -/
@[simp] theorem State.failSupervision_frame (s : State) (k : FailureKind) :
    (s.failSupervision k).pending = s.pending ∧
    (s.failSupervision k).us = s.us ∧
    (s.failSupervision k).freeCount = s.freeCount ∧
    (s.failSupervision k).settings = s.settings ∧
    (s.failSupervision k).settled = s.settled ∧
    (s.failSupervision k).exchange = s.exchange ∧
    (s.failSupervision k).grid = s.grid ∧
    (s.failSupervision k).steer = s.steer ∧
    (s.failSupervision k).load = s.load ∧
    (s.failSupervision k).scan = s.scan ∧
    (s.failSupervision k).speed = s.speed ∧
    (s.failSupervision k).trace = s.trace := by
  unfold State.failSupervision
  try dsimp only
  (repeat' split) <;> simp

/-- What `State.heartbeatAdvance` leaves alone. -/
@[simp] theorem State.heartbeatAdvance_frame (s : State) :
    (s.heartbeatAdvance).pending = s.pending ∧
    (s.heartbeatAdvance).us = s.us ∧
    (s.heartbeatAdvance).freeCount = s.freeCount ∧
    (s.heartbeatAdvance).settings = s.settings ∧
    (s.heartbeatAdvance).settled = s.settled ∧
    (s.heartbeatAdvance).exchange = s.exchange ∧
    (s.heartbeatAdvance).grid = s.grid ∧
    (s.heartbeatAdvance).steer = s.steer ∧
    (s.heartbeatAdvance).load = s.load ∧
    (s.heartbeatAdvance).scan = s.scan ∧
    (s.heartbeatAdvance).speed = s.speed ∧
    (s.heartbeatAdvance).trace = s.trace := by
  unfold State.heartbeatAdvance
  try dsimp only
  (repeat' split) <;> simp

/-- What `State.expireLongWindow` leaves alone. -/
@[simp] theorem State.expireLongWindow_frame (s : State) :
    (s.expireLongWindow).pending = s.pending ∧
    (s.expireLongWindow).us = s.us ∧
    (s.expireLongWindow).freeCount = s.freeCount ∧
    (s.expireLongWindow).settings = s.settings ∧
    (s.expireLongWindow).settled = s.settled ∧
    (s.expireLongWindow).exchange = s.exchange ∧
    (s.expireLongWindow).grid = s.grid ∧
    (s.expireLongWindow).steer = s.steer ∧
    (s.expireLongWindow).load = s.load ∧
    (s.expireLongWindow).scan = s.scan ∧
    (s.expireLongWindow).speed = s.speed ∧
    (s.expireLongWindow).trace = s.trace := by
  unfold State.expireLongWindow
  try dsimp only
  (repeat' split) <;> simp

/-- What `State.expireWMin` leaves alone. -/
@[simp] theorem State.expireWMin_frame (s : State) :
    (s.expireWMin).pending = s.pending ∧
    (s.expireWMin).us = s.us ∧
    (s.expireWMin).freeCount = s.freeCount ∧
    (s.expireWMin).ram = s.ram ∧
    (s.expireWMin).window = s.window ∧
    (s.expireWMin).settings = s.settings ∧
    (s.expireWMin).settled = s.settled ∧
    (s.expireWMin).exchange = s.exchange ∧
    (s.expireWMin).desk = s.desk ∧
    (s.expireWMin).faults = s.faults ∧
    (s.expireWMin).rows = s.rows ∧
    (s.expireWMin).drive = s.drive ∧
    (s.expireWMin).grid = s.grid ∧
    (s.expireWMin).steer = s.steer ∧
    (s.expireWMin).load = s.load ∧
    (s.expireWMin).link = s.link ∧
    (s.expireWMin).scan = s.scan ∧
    (s.expireWMin).speed = s.speed ∧
    (s.expireWMin).selfLoad = s.selfLoad ∧
    (s.expireWMin).trace = s.trace := by
  unfold State.expireWMin
  try dsimp only
  (repeat' split) <;> simp

/-- What `State.expireWMax` leaves alone. -/
@[simp] theorem State.expireWMax_frame (s : State) :
    (s.expireWMax).pending = s.pending ∧
    (s.expireWMax).us = s.us ∧
    (s.expireWMax).freeCount = s.freeCount ∧
    (s.expireWMax).settings = s.settings ∧
    (s.expireWMax).settled = s.settled ∧
    (s.expireWMax).exchange = s.exchange ∧
    (s.expireWMax).grid = s.grid ∧
    (s.expireWMax).steer = s.steer ∧
    (s.expireWMax).load = s.load ∧
    (s.expireWMax).scan = s.scan ∧
    (s.expireWMax).speed = s.speed ∧
    (s.expireWMax).trace = s.trace := by
  unfold State.expireWMax
  try dsimp only
  (repeat' split) <;> simp

/-- What `State.decayStep` leaves alone. -/
@[simp] theorem State.decayStep_frame (s : State) :
    (s.decayStep).pending = s.pending ∧
    (s.decayStep).us = s.us ∧
    (s.decayStep).freeCount = s.freeCount ∧
    (s.decayStep).ram = s.ram ∧
    (s.decayStep).window = s.window ∧
    (s.decayStep).settings = s.settings ∧
    (s.decayStep).settled = s.settled ∧
    (s.decayStep).exchange = s.exchange ∧
    (s.decayStep).desk = s.desk ∧
    (s.decayStep).faults = s.faults ∧
    (s.decayStep).drive = s.drive ∧
    (s.decayStep).grid = s.grid ∧
    (s.decayStep).steer = s.steer ∧
    (s.decayStep).load = s.load ∧
    (s.decayStep).link = s.link ∧
    (s.decayStep).scan = s.scan ∧
    (s.decayStep).speed = s.speed ∧
    (s.decayStep).supervision = s.supervision ∧
    (s.decayStep).selfLoad = s.selfLoad ∧
    (s.decayStep).trace = s.trace ∧
    (s.decayStep).published = s.published := by
  unfold State.decayStep
  try dsimp only
  (repeat' split) <;> simp

/-- What `State.handClearFallback` leaves alone. -/
@[simp] theorem State.handClearFallback_frame (s : State) (o : HeldOrder) :
    (s.handClearFallback o).pending = s.pending ∧
    (s.handClearFallback o).us = s.us ∧
    (s.handClearFallback o).freeCount = s.freeCount ∧
    (s.handClearFallback o).settings = s.settings ∧
    (s.handClearFallback o).settled = s.settled ∧
    (s.handClearFallback o).exchange = s.exchange ∧
    (s.handClearFallback o).desk = s.desk ∧
    (s.handClearFallback o).grid = s.grid ∧
    (s.handClearFallback o).steer = s.steer ∧
    (s.handClearFallback o).load = s.load ∧
    (s.handClearFallback o).link = s.link ∧
    (s.handClearFallback o).scan = s.scan ∧
    (s.handClearFallback o).speed = s.speed ∧
    (s.handClearFallback o).selfLoad = s.selfLoad ∧
    (s.handClearFallback o).trace = s.trace := by
  unfold State.handClearFallback
  try dsimp only
  (repeat' split) <;> simp

end Sys2Proof.Machine
end

