-- ==== Sys2Proof/Laws/FrameApplyCompletion.lean ====
section
/-! SUPPORT. What each operation of Machine/ApplyCompletion.lean leaves alone: every field of the State that it does not name
keeps its value. -/

namespace Sys2Proof.Machine

/-- What `State.startGovernor` leaves alone. -/
@[simp] theorem State.startGovernor_frame (s : State) :
    (s.startGovernor).pending = s.pending ∧
    (s.startGovernor).us = s.us ∧
    (s.startGovernor).freeCount = s.freeCount ∧
    (s.startGovernor).ram = s.ram ∧
    (s.startGovernor).window = s.window ∧
    (s.startGovernor).settings = s.settings ∧
    (s.startGovernor).settled = s.settled ∧
    (s.startGovernor).exchange = s.exchange ∧
    (s.startGovernor).desk = s.desk ∧
    (s.startGovernor).faults = s.faults ∧
    (s.startGovernor).rows = s.rows ∧
    (s.startGovernor).drive = s.drive ∧
    (s.startGovernor).grid = s.grid ∧
    (s.startGovernor).steer = s.steer ∧
    (s.startGovernor).load = s.load ∧
    (s.startGovernor).link = s.link ∧
    (s.startGovernor).scan = s.scan ∧
    (s.startGovernor).speed = s.speed ∧
    (s.startGovernor).supervision = s.supervision ∧
    (s.startGovernor).selfLoad = s.selfLoad ∧
    (s.startGovernor).trace = s.trace ∧
    (s.startGovernor).published = s.published := by
  unfold State.startGovernor
  try dsimp only
  simp

/-- What `State.startGridFrames` leaves alone. -/
@[simp] theorem State.startGridFrames_frame (s : State) :
    (s.startGridFrames).pending = s.pending ∧
    (s.startGridFrames).us = s.us ∧
    (s.startGridFrames).freeCount = s.freeCount ∧
    (s.startGridFrames).ram = s.ram ∧
    (s.startGridFrames).window = s.window ∧
    (s.startGridFrames).settings = s.settings ∧
    (s.startGridFrames).settled = s.settled ∧
    (s.startGridFrames).exchange = s.exchange ∧
    (s.startGridFrames).desk = s.desk ∧
    (s.startGridFrames).faults = s.faults ∧
    (s.startGridFrames).rows = s.rows ∧
    (s.startGridFrames).drive = s.drive ∧
    (s.startGridFrames).grid = s.grid ∧
    (s.startGridFrames).steer = s.steer ∧
    (s.startGridFrames).load = s.load ∧
    (s.startGridFrames).link = s.link ∧
    (s.startGridFrames).scan = s.scan ∧
    (s.startGridFrames).speed = s.speed ∧
    (s.startGridFrames).supervision = s.supervision ∧
    (s.startGridFrames).selfLoad = s.selfLoad ∧
    (s.startGridFrames).trace = s.trace ∧
    (s.startGridFrames).published = s.published := by
  unfold State.startGridFrames
  try dsimp only
  (repeat' split) <;> simp

/-- What `State.startMonitor` leaves alone. -/
@[simp] theorem State.startMonitor_frame (s : State) :
    (s.startMonitor).pending = s.pending ∧
    (s.startMonitor).us = s.us ∧
    (s.startMonitor).freeCount = s.freeCount ∧
    (s.startMonitor).ram = s.ram ∧
    (s.startMonitor).window = s.window ∧
    (s.startMonitor).settings = s.settings ∧
    (s.startMonitor).settled = s.settled ∧
    (s.startMonitor).exchange = s.exchange ∧
    (s.startMonitor).desk = s.desk ∧
    (s.startMonitor).faults = s.faults ∧
    (s.startMonitor).rows = s.rows ∧
    (s.startMonitor).drive = s.drive ∧
    (s.startMonitor).grid = s.grid ∧
    (s.startMonitor).steer = s.steer ∧
    (s.startMonitor).load = s.load ∧
    (s.startMonitor).link = s.link ∧
    (s.startMonitor).scan = s.scan ∧
    (s.startMonitor).speed = s.speed ∧
    (s.startMonitor).selfLoad = s.selfLoad ∧
    (s.startMonitor).trace = s.trace := by
  unfold State.startMonitor
  try dsimp only
  (repeat' split) <;> simp

/-- What `State.markModels` leaves alone. -/
@[simp] theorem State.markModels_frame (s : State) :
    (s.markModels).pending = s.pending ∧
    (s.markModels).us = s.us ∧
    (s.markModels).freeCount = s.freeCount ∧
    (s.markModels).ram = s.ram ∧
    (s.markModels).window = s.window ∧
    (s.markModels).settings = s.settings ∧
    (s.markModels).settled = s.settled ∧
    (s.markModels).exchange = s.exchange ∧
    (s.markModels).desk = s.desk ∧
    (s.markModels).faults = s.faults ∧
    (s.markModels).rows = s.rows ∧
    (s.markModels).drive = s.drive ∧
    (s.markModels).steer = s.steer ∧
    (s.markModels).load = s.load ∧
    (s.markModels).link = s.link ∧
    (s.markModels).scan = s.scan ∧
    (s.markModels).speed = s.speed ∧
    (s.markModels).supervision = s.supervision ∧
    (s.markModels).selfLoad = s.selfLoad ∧
    (s.markModels).trace = s.trace ∧
    (s.markModels).timers = s.timers ∧
    (s.markModels).published = s.published := by
  unfold State.markModels
  try dsimp only
  simp

/-- What `State.completeApply` leaves alone. -/
@[simp] theorem State.completeApply_frame (s : State) :
    (s.completeApply).pending = s.pending ∧
    (s.completeApply).us = s.us ∧
    (s.completeApply).freeCount = s.freeCount ∧
    (s.completeApply).settings = s.settings ∧
    (s.completeApply).exchange = s.exchange ∧
    (s.completeApply).faults = s.faults ∧
    (s.completeApply).steer = s.steer ∧
    (s.completeApply).scan = s.scan ∧
    (s.completeApply).speed = s.speed ∧
    (s.completeApply).selfLoad = s.selfLoad ∧
    (s.completeApply).trace = s.trace := by
  unfold State.completeApply
  try dsimp only
  (repeat' split) <;> simp

end Sys2Proof.Machine
end

