-- ==== Sys2Proof/Laws/FrameLoadMonitor.lean ====
section
/-! SUPPORT. What each operation of Machine/LoadMonitor.lean leaves alone: every field of the State that it does not name
keeps its value. -/

namespace Sys2Proof.Machine

/-- What `State.readStruts` leaves alone. -/
@[simp] theorem State.readStruts_frame (s : State) :
    (s.readStruts).pending = s.pending ∧
    (s.readStruts).us = s.us ∧
    (s.readStruts).freeCount = s.freeCount ∧
    (s.readStruts).ram = s.ram ∧
    (s.readStruts).window = s.window ∧
    (s.readStruts).settings = s.settings ∧
    (s.readStruts).settled = s.settled ∧
    (s.readStruts).exchange = s.exchange ∧
    (s.readStruts).desk = s.desk ∧
    (s.readStruts).faults = s.faults ∧
    (s.readStruts).rows = s.rows ∧
    (s.readStruts).drive = s.drive ∧
    (s.readStruts).grid = s.grid ∧
    (s.readStruts).steer = s.steer ∧
    (s.readStruts).link = s.link ∧
    (s.readStruts).scan = s.scan ∧
    (s.readStruts).speed = s.speed ∧
    (s.readStruts).supervision = s.supervision ∧
    (s.readStruts).selfLoad = s.selfLoad ∧
    (s.readStruts).trace = s.trace ∧
    (s.readStruts).timers = s.timers ∧
    (s.readStruts).published = s.published := by
  unfold State.readStruts
  try dsimp only
  (repeat' split) <;> simp

/-- What `State.weighLive` leaves alone. -/
@[simp] theorem State.weighLive_frame (s : State) :
    (s.weighLive).pending = s.pending ∧
    (s.weighLive).us = s.us ∧
    (s.weighLive).freeCount = s.freeCount ∧
    (s.weighLive).ram = s.ram ∧
    (s.weighLive).window = s.window ∧
    (s.weighLive).settings = s.settings ∧
    (s.weighLive).settled = s.settled ∧
    (s.weighLive).exchange = s.exchange ∧
    (s.weighLive).desk = s.desk ∧
    (s.weighLive).faults = s.faults ∧
    (s.weighLive).rows = s.rows ∧
    (s.weighLive).drive = s.drive ∧
    (s.weighLive).grid = s.grid ∧
    (s.weighLive).steer = s.steer ∧
    (s.weighLive).link = s.link ∧
    (s.weighLive).scan = s.scan ∧
    (s.weighLive).speed = s.speed ∧
    (s.weighLive).supervision = s.supervision ∧
    (s.weighLive).selfLoad = s.selfLoad ∧
    (s.weighLive).trace = s.trace ∧
    (s.weighLive).timers = s.timers ∧
    (s.weighLive).published = s.published := by
  unfold State.weighLive
  try dsimp only
  (repeat' split) <;> simp

/-- What `State.weigh` leaves alone. -/
@[simp] theorem State.weigh_frame (s : State) :
    (s.weigh).pending = s.pending ∧
    (s.weigh).us = s.us ∧
    (s.weigh).freeCount = s.freeCount ∧
    (s.weigh).settings = s.settings ∧
    (s.weigh).settled = s.settled ∧
    (s.weigh).exchange = s.exchange ∧
    (s.weigh).desk = s.desk ∧
    (s.weigh).grid = s.grid ∧
    (s.weigh).steer = s.steer ∧
    (s.weigh).scan = s.scan ∧
    (s.weigh).speed = s.speed ∧
    (s.weigh).selfLoad = s.selfLoad ∧
    (s.weigh).trace = s.trace := by
  unfold State.weigh
  try dsimp only
  (repeat' split) <;> simp

/-- What `State.completeTare` leaves alone. -/
@[simp] theorem State.completeTare_frame (s : State) (o : HeldOrder) (sum : Int) :
    (s.completeTare o sum).pending = s.pending ∧
    (s.completeTare o sum).us = s.us ∧
    (s.completeTare o sum).freeCount = s.freeCount ∧
    (s.completeTare o sum).settings = s.settings ∧
    (s.completeTare o sum).settled = s.settled ∧
    (s.completeTare o sum).exchange = s.exchange ∧
    (s.completeTare o sum).faults = s.faults ∧
    (s.completeTare o sum).rows = s.rows ∧
    (s.completeTare o sum).drive = s.drive ∧
    (s.completeTare o sum).grid = s.grid ∧
    (s.completeTare o sum).steer = s.steer ∧
    (s.completeTare o sum).link = s.link ∧
    (s.completeTare o sum).scan = s.scan ∧
    (s.completeTare o sum).speed = s.speed ∧
    (s.completeTare o sum).supervision = s.supervision ∧
    (s.completeTare o sum).selfLoad = s.selfLoad ∧
    (s.completeTare o sum).trace = s.trace ∧
    (s.completeTare o sum).timers = s.timers ∧
    (s.completeTare o sum).published = s.published := by
  unfold State.completeTare
  try dsimp only
  simp

/-- What `State.tareStep` leaves alone. -/
@[simp] theorem State.tareStep_frame (s : State) :
    (s.tareStep).pending = s.pending ∧
    (s.tareStep).us = s.us ∧
    (s.tareStep).freeCount = s.freeCount ∧
    (s.tareStep).settings = s.settings ∧
    (s.tareStep).settled = s.settled ∧
    (s.tareStep).exchange = s.exchange ∧
    (s.tareStep).faults = s.faults ∧
    (s.tareStep).rows = s.rows ∧
    (s.tareStep).drive = s.drive ∧
    (s.tareStep).grid = s.grid ∧
    (s.tareStep).steer = s.steer ∧
    (s.tareStep).link = s.link ∧
    (s.tareStep).scan = s.scan ∧
    (s.tareStep).speed = s.speed ∧
    (s.tareStep).supervision = s.supervision ∧
    (s.tareStep).selfLoad = s.selfLoad ∧
    (s.tareStep).trace = s.trace ∧
    (s.tareStep).timers = s.timers ∧
    (s.tareStep).published = s.published := by
  unfold State.tareStep
  try dsimp only
  (repeat' split) <;> simp

/-- What `State.handTareLoad` leaves alone. -/
@[simp] theorem State.handTareLoad_frame (s : State) (o : HeldOrder) :
    (s.handTareLoad o).pending = s.pending ∧
    (s.handTareLoad o).us = s.us ∧
    (s.handTareLoad o).freeCount = s.freeCount ∧
    (s.handTareLoad o).settings = s.settings ∧
    (s.handTareLoad o).settled = s.settled ∧
    (s.handTareLoad o).exchange = s.exchange ∧
    (s.handTareLoad o).faults = s.faults ∧
    (s.handTareLoad o).rows = s.rows ∧
    (s.handTareLoad o).drive = s.drive ∧
    (s.handTareLoad o).grid = s.grid ∧
    (s.handTareLoad o).steer = s.steer ∧
    (s.handTareLoad o).link = s.link ∧
    (s.handTareLoad o).scan = s.scan ∧
    (s.handTareLoad o).speed = s.speed ∧
    (s.handTareLoad o).supervision = s.supervision ∧
    (s.handTareLoad o).selfLoad = s.selfLoad ∧
    (s.handTareLoad o).trace = s.trace ∧
    (s.handTareLoad o).timers = s.timers ∧
    (s.handTareLoad o).published = s.published := by
  unfold State.handTareLoad
  try dsimp only
  (repeat' split) <;> simp

/-- What `State.timeBand` leaves alone. -/
@[simp] theorem State.timeBand_frame (s : State) (sample : Option Int) :
    (s.timeBand sample).pending = s.pending ∧
    (s.timeBand sample).us = s.us ∧
    (s.timeBand sample).freeCount = s.freeCount ∧
    (s.timeBand sample).ram = s.ram ∧
    (s.timeBand sample).window = s.window ∧
    (s.timeBand sample).settings = s.settings ∧
    (s.timeBand sample).settled = s.settled ∧
    (s.timeBand sample).exchange = s.exchange ∧
    (s.timeBand sample).desk = s.desk ∧
    (s.timeBand sample).faults = s.faults ∧
    (s.timeBand sample).rows = s.rows ∧
    (s.timeBand sample).drive = s.drive ∧
    (s.timeBand sample).grid = s.grid ∧
    (s.timeBand sample).steer = s.steer ∧
    (s.timeBand sample).link = s.link ∧
    (s.timeBand sample).scan = s.scan ∧
    (s.timeBand sample).speed = s.speed ∧
    (s.timeBand sample).supervision = s.supervision ∧
    (s.timeBand sample).selfLoad = s.selfLoad ∧
    (s.timeBand sample).trace = s.trace ∧
    (s.timeBand sample).timers = s.timers ∧
    (s.timeBand sample).published = s.published := by
  unfold State.timeBand
  try dsimp only
  (repeat' split) <;> simp

/-- What `State.timeMove` leaves alone. -/
@[simp] theorem State.timeMove_frame (s : State) :
    (s.timeMove).pending = s.pending ∧
    (s.timeMove).us = s.us ∧
    (s.timeMove).freeCount = s.freeCount ∧
    (s.timeMove).ram = s.ram ∧
    (s.timeMove).window = s.window ∧
    (s.timeMove).settings = s.settings ∧
    (s.timeMove).settled = s.settled ∧
    (s.timeMove).exchange = s.exchange ∧
    (s.timeMove).desk = s.desk ∧
    (s.timeMove).faults = s.faults ∧
    (s.timeMove).rows = s.rows ∧
    (s.timeMove).drive = s.drive ∧
    (s.timeMove).grid = s.grid ∧
    (s.timeMove).steer = s.steer ∧
    (s.timeMove).link = s.link ∧
    (s.timeMove).scan = s.scan ∧
    (s.timeMove).speed = s.speed ∧
    (s.timeMove).supervision = s.supervision ∧
    (s.timeMove).selfLoad = s.selfLoad ∧
    (s.timeMove).trace = s.trace ∧
    (s.timeMove).timers = s.timers ∧
    (s.timeMove).published = s.published := by
  unfold State.timeMove
  try dsimp only
  (repeat' split) <;> simp

/-- What `State.enterCycle` leaves alone. -/
@[simp] theorem State.enterCycle_frame (s : State) (c : Cycle) :
    (s.enterCycle c).pending = s.pending ∧
    (s.enterCycle c).us = s.us ∧
    (s.enterCycle c).freeCount = s.freeCount ∧
    (s.enterCycle c).ram = s.ram ∧
    (s.enterCycle c).window = s.window ∧
    (s.enterCycle c).settings = s.settings ∧
    (s.enterCycle c).settled = s.settled ∧
    (s.enterCycle c).exchange = s.exchange ∧
    (s.enterCycle c).desk = s.desk ∧
    (s.enterCycle c).faults = s.faults ∧
    (s.enterCycle c).rows = s.rows ∧
    (s.enterCycle c).drive = s.drive ∧
    (s.enterCycle c).grid = s.grid ∧
    (s.enterCycle c).steer = s.steer ∧
    (s.enterCycle c).link = s.link ∧
    (s.enterCycle c).scan = s.scan ∧
    (s.enterCycle c).speed = s.speed ∧
    (s.enterCycle c).supervision = s.supervision ∧
    (s.enterCycle c).selfLoad = s.selfLoad ∧
    (s.enterCycle c).trace = s.trace ∧
    (s.enterCycle c).timers = s.timers ∧
    (s.enterCycle c).published = s.published := by
  unfold State.enterCycle
  try dsimp only
  simp

/-- What `State.enterLoading` leaves alone. -/
@[simp] theorem State.enterLoading_frame (s : State) :
    (s.enterLoading).pending = s.pending ∧
    (s.enterLoading).us = s.us ∧
    (s.enterLoading).freeCount = s.freeCount ∧
    (s.enterLoading).ram = s.ram ∧
    (s.enterLoading).window = s.window ∧
    (s.enterLoading).settings = s.settings ∧
    (s.enterLoading).settled = s.settled ∧
    (s.enterLoading).exchange = s.exchange ∧
    (s.enterLoading).desk = s.desk ∧
    (s.enterLoading).faults = s.faults ∧
    (s.enterLoading).rows = s.rows ∧
    (s.enterLoading).drive = s.drive ∧
    (s.enterLoading).grid = s.grid ∧
    (s.enterLoading).steer = s.steer ∧
    (s.enterLoading).link = s.link ∧
    (s.enterLoading).scan = s.scan ∧
    (s.enterLoading).speed = s.speed ∧
    (s.enterLoading).supervision = s.supervision ∧
    (s.enterLoading).selfLoad = s.selfLoad ∧
    (s.enterLoading).trace = s.trace ∧
    (s.enterLoading).timers = s.timers ∧
    (s.enterLoading).published = s.published := by
  unfold State.enterLoading
  try dsimp only
  simp

/-- What `State.latchPayload` leaves alone. -/
@[simp] theorem State.latchPayload_frame (s : State) :
    (s.latchPayload).pending = s.pending ∧
    (s.latchPayload).us = s.us ∧
    (s.latchPayload).freeCount = s.freeCount ∧
    (s.latchPayload).ram = s.ram ∧
    (s.latchPayload).window = s.window ∧
    (s.latchPayload).settings = s.settings ∧
    (s.latchPayload).settled = s.settled ∧
    (s.latchPayload).exchange = s.exchange ∧
    (s.latchPayload).desk = s.desk ∧
    (s.latchPayload).faults = s.faults ∧
    (s.latchPayload).rows = s.rows ∧
    (s.latchPayload).drive = s.drive ∧
    (s.latchPayload).grid = s.grid ∧
    (s.latchPayload).steer = s.steer ∧
    (s.latchPayload).link = s.link ∧
    (s.latchPayload).scan = s.scan ∧
    (s.latchPayload).speed = s.speed ∧
    (s.latchPayload).supervision = s.supervision ∧
    (s.latchPayload).selfLoad = s.selfLoad ∧
    (s.latchPayload).trace = s.trace ∧
    (s.latchPayload).timers = s.timers ∧
    (s.latchPayload).published = s.published := by
  unfold State.latchPayload
  try dsimp only
  (repeat' split) <;> simp

/-- What `State.endCycle` leaves alone. -/
@[simp] theorem State.endCycle_frame (s : State) :
    (s.endCycle).pending = s.pending ∧
    (s.endCycle).us = s.us ∧
    (s.endCycle).freeCount = s.freeCount ∧
    (s.endCycle).ram = s.ram ∧
    (s.endCycle).window = s.window ∧
    (s.endCycle).settings = s.settings ∧
    (s.endCycle).settled = s.settled ∧
    (s.endCycle).exchange = s.exchange ∧
    (s.endCycle).desk = s.desk ∧
    (s.endCycle).faults = s.faults ∧
    (s.endCycle).rows = s.rows ∧
    (s.endCycle).drive = s.drive ∧
    (s.endCycle).grid = s.grid ∧
    (s.endCycle).steer = s.steer ∧
    (s.endCycle).link = s.link ∧
    (s.endCycle).scan = s.scan ∧
    (s.endCycle).speed = s.speed ∧
    (s.endCycle).supervision = s.supervision ∧
    (s.endCycle).selfLoad = s.selfLoad ∧
    (s.endCycle).trace = s.trace ∧
    (s.endCycle).timers = s.timers ∧
    (s.endCycle).published = s.published := by
  unfold State.endCycle
  try dsimp only
  simp

/-- What `State.moveCycle` leaves alone. -/
@[simp] theorem State.moveCycle_frame (s : State) :
    (s.moveCycle).pending = s.pending ∧
    (s.moveCycle).us = s.us ∧
    (s.moveCycle).freeCount = s.freeCount ∧
    (s.moveCycle).ram = s.ram ∧
    (s.moveCycle).window = s.window ∧
    (s.moveCycle).settings = s.settings ∧
    (s.moveCycle).settled = s.settled ∧
    (s.moveCycle).exchange = s.exchange ∧
    (s.moveCycle).desk = s.desk ∧
    (s.moveCycle).faults = s.faults ∧
    (s.moveCycle).rows = s.rows ∧
    (s.moveCycle).drive = s.drive ∧
    (s.moveCycle).grid = s.grid ∧
    (s.moveCycle).steer = s.steer ∧
    (s.moveCycle).link = s.link ∧
    (s.moveCycle).scan = s.scan ∧
    (s.moveCycle).speed = s.speed ∧
    (s.moveCycle).supervision = s.supervision ∧
    (s.moveCycle).selfLoad = s.selfLoad ∧
    (s.moveCycle).trace = s.trace ∧
    (s.moveCycle).timers = s.timers ∧
    (s.moveCycle).published = s.published := by
  unfold State.moveCycle
  try dsimp only
  (repeat' split) <;> simp

/-- What `State.cycleStep` leaves alone. -/
@[simp] theorem State.cycleStep_frame (s : State) (sample : Option Int) :
    (s.cycleStep sample).pending = s.pending ∧
    (s.cycleStep sample).us = s.us ∧
    (s.cycleStep sample).freeCount = s.freeCount ∧
    (s.cycleStep sample).ram = s.ram ∧
    (s.cycleStep sample).window = s.window ∧
    (s.cycleStep sample).settings = s.settings ∧
    (s.cycleStep sample).settled = s.settled ∧
    (s.cycleStep sample).exchange = s.exchange ∧
    (s.cycleStep sample).desk = s.desk ∧
    (s.cycleStep sample).faults = s.faults ∧
    (s.cycleStep sample).rows = s.rows ∧
    (s.cycleStep sample).drive = s.drive ∧
    (s.cycleStep sample).grid = s.grid ∧
    (s.cycleStep sample).steer = s.steer ∧
    (s.cycleStep sample).link = s.link ∧
    (s.cycleStep sample).scan = s.scan ∧
    (s.cycleStep sample).speed = s.speed ∧
    (s.cycleStep sample).supervision = s.supervision ∧
    (s.cycleStep sample).selfLoad = s.selfLoad ∧
    (s.cycleStep sample).trace = s.trace ∧
    (s.cycleStep sample).timers = s.timers ∧
    (s.cycleStep sample).published = s.published := by
  unfold State.cycleStep
  try dsimp only
  (repeat' split) <;> simp

/-- What `State.usePayload` leaves alone. -/
@[simp] theorem State.usePayload_frame (s : State) :
    (s.usePayload).pending = s.pending ∧
    (s.usePayload).us = s.us ∧
    (s.usePayload).freeCount = s.freeCount ∧
    (s.usePayload).ram = s.ram ∧
    (s.usePayload).window = s.window ∧
    (s.usePayload).settings = s.settings ∧
    (s.usePayload).settled = s.settled ∧
    (s.usePayload).exchange = s.exchange ∧
    (s.usePayload).desk = s.desk ∧
    (s.usePayload).faults = s.faults ∧
    (s.usePayload).rows = s.rows ∧
    (s.usePayload).drive = s.drive ∧
    (s.usePayload).link = s.link ∧
    (s.usePayload).scan = s.scan ∧
    (s.usePayload).speed = s.speed ∧
    (s.usePayload).supervision = s.supervision ∧
    (s.usePayload).selfLoad = s.selfLoad ∧
    (s.usePayload).trace = s.trace ∧
    (s.usePayload).timers = s.timers ∧
    (s.usePayload).published = s.published := by
  unfold State.usePayload
  try dsimp only
  simp

/-- What `State.writeClass` leaves alone. -/
@[simp] theorem State.writeClass_frame (s : State) :
    (s.writeClass).pending = s.pending ∧
    (s.writeClass).us = s.us ∧
    (s.writeClass).freeCount = s.freeCount ∧
    (s.writeClass).settings = s.settings ∧
    (s.writeClass).settled = s.settled ∧
    (s.writeClass).exchange = s.exchange ∧
    (s.writeClass).desk = s.desk ∧
    (s.writeClass).grid = s.grid ∧
    (s.writeClass).steer = s.steer ∧
    (s.writeClass).load = s.load ∧
    (s.writeClass).scan = s.scan ∧
    (s.writeClass).speed = s.speed ∧
    (s.writeClass).selfLoad = s.selfLoad ∧
    (s.writeClass).trace = s.trace := by
  unfold State.writeClass
  try dsimp only
  (repeat' split) <;> simp

/-- What `State.classStep` leaves alone. -/
@[simp] theorem State.classStep_frame (s : State) (latched : Bool) :
    (s.classStep latched).pending = s.pending ∧
    (s.classStep latched).us = s.us ∧
    (s.classStep latched).freeCount = s.freeCount ∧
    (s.classStep latched).settings = s.settings ∧
    (s.classStep latched).settled = s.settled ∧
    (s.classStep latched).exchange = s.exchange ∧
    (s.classStep latched).desk = s.desk ∧
    (s.classStep latched).grid = s.grid ∧
    (s.classStep latched).steer = s.steer ∧
    (s.classStep latched).scan = s.scan ∧
    (s.classStep latched).speed = s.speed ∧
    (s.classStep latched).selfLoad = s.selfLoad ∧
    (s.classStep latched).trace = s.trace := by
  unfold State.classStep
  try dsimp only
  (repeat' split) <;> simp

/-- What `State.firstReports` leaves alone. -/
@[simp] theorem State.firstReports_frame (s : State) :
    (s.firstReports).pending = s.pending ∧
    (s.firstReports).us = s.us ∧
    (s.firstReports).freeCount = s.freeCount ∧
    (s.firstReports).window = s.window ∧
    (s.firstReports).settings = s.settings ∧
    (s.firstReports).settled = s.settled ∧
    (s.firstReports).exchange = s.exchange ∧
    (s.firstReports).desk = s.desk ∧
    (s.firstReports).rows = s.rows ∧
    (s.firstReports).drive = s.drive ∧
    (s.firstReports).grid = s.grid ∧
    (s.firstReports).steer = s.steer ∧
    (s.firstReports).load = s.load ∧
    (s.firstReports).link = s.link ∧
    (s.firstReports).scan = s.scan ∧
    (s.firstReports).speed = s.speed ∧
    (s.firstReports).supervision = s.supervision ∧
    (s.firstReports).selfLoad = s.selfLoad ∧
    (s.firstReports).trace = s.trace ∧
    (s.firstReports).timers = s.timers ∧
    (s.firstReports).published = s.published := by
  unfold State.firstReports
  try dsimp only
  (repeat' split) <;> simp

/-- What `State.loadPass` leaves alone. -/
@[simp] theorem State.loadPass_frame (s : State) :
    (s.loadPass).pending = s.pending ∧
    (s.loadPass).us = s.us ∧
    (s.loadPass).freeCount = s.freeCount ∧
    (s.loadPass).settings = s.settings ∧
    (s.loadPass).settled = s.settled ∧
    (s.loadPass).exchange = s.exchange ∧
    (s.loadPass).scan = s.scan ∧
    (s.loadPass).speed = s.speed ∧
    (s.loadPass).selfLoad = s.selfLoad ∧
    (s.loadPass).trace = s.trace := by
  unfold State.loadPass
  try dsimp only
  (repeat' split) <;> simp

/-- What `State.setMotor` leaves alone. -/
@[simp] theorem State.setMotor_frame (s : State) (w : Wheel) (m : Motor) :
    (s.setMotor w m).pending = s.pending ∧
    (s.setMotor w m).us = s.us ∧
    (s.setMotor w m).freeCount = s.freeCount ∧
    (s.setMotor w m).ram = s.ram ∧
    (s.setMotor w m).window = s.window ∧
    (s.setMotor w m).settings = s.settings ∧
    (s.setMotor w m).settled = s.settled ∧
    (s.setMotor w m).exchange = s.exchange ∧
    (s.setMotor w m).desk = s.desk ∧
    (s.setMotor w m).faults = s.faults ∧
    (s.setMotor w m).rows = s.rows ∧
    (s.setMotor w m).drive = s.drive ∧
    (s.setMotor w m).grid = s.grid ∧
    (s.setMotor w m).steer = s.steer ∧
    (s.setMotor w m).link = s.link ∧
    (s.setMotor w m).scan = s.scan ∧
    (s.setMotor w m).speed = s.speed ∧
    (s.setMotor w m).supervision = s.supervision ∧
    (s.setMotor w m).selfLoad = s.selfLoad ∧
    (s.setMotor w m).trace = s.trace ∧
    (s.setMotor w m).timers = s.timers ∧
    (s.setMotor w m).published = s.published := by
  unfold State.setMotor
  try dsimp only
  (repeat' split) <;> simp

/-- What `State.writeMotorRow` leaves alone. -/
@[simp] theorem State.writeMotorRow_frame (s : State) (r : RowId) (value : Int) :
    (s.writeMotorRow r value).pending = s.pending ∧
    (s.writeMotorRow r value).us = s.us ∧
    (s.writeMotorRow r value).freeCount = s.freeCount ∧
    (s.writeMotorRow r value).ram = s.ram ∧
    (s.writeMotorRow r value).window = s.window ∧
    (s.writeMotorRow r value).settings = s.settings ∧
    (s.writeMotorRow r value).settled = s.settled ∧
    (s.writeMotorRow r value).exchange = s.exchange ∧
    (s.writeMotorRow r value).desk = s.desk ∧
    (s.writeMotorRow r value).faults = s.faults ∧
    (s.writeMotorRow r value).drive = s.drive ∧
    (s.writeMotorRow r value).grid = s.grid ∧
    (s.writeMotorRow r value).steer = s.steer ∧
    (s.writeMotorRow r value).load = s.load ∧
    (s.writeMotorRow r value).link = s.link ∧
    (s.writeMotorRow r value).scan = s.scan ∧
    (s.writeMotorRow r value).speed = s.speed ∧
    (s.writeMotorRow r value).supervision = s.supervision ∧
    (s.writeMotorRow r value).selfLoad = s.selfLoad ∧
    (s.writeMotorRow r value).trace = s.trace ∧
    (s.writeMotorRow r value).timers = s.timers ∧
    (s.writeMotorRow r value).published = s.published := by
  unfold State.writeMotorRow
  try dsimp only
  (repeat' split) <;> simp

/-- What `State.publishMotor` leaves alone. -/
@[simp] theorem State.publishMotor_frame (s : State) (w : Wheel) :
    (s.publishMotor w).pending = s.pending ∧
    (s.publishMotor w).us = s.us ∧
    (s.publishMotor w).freeCount = s.freeCount ∧
    (s.publishMotor w).ram = s.ram ∧
    (s.publishMotor w).window = s.window ∧
    (s.publishMotor w).settings = s.settings ∧
    (s.publishMotor w).settled = s.settled ∧
    (s.publishMotor w).exchange = s.exchange ∧
    (s.publishMotor w).desk = s.desk ∧
    (s.publishMotor w).faults = s.faults ∧
    (s.publishMotor w).rows = s.rows ∧
    (s.publishMotor w).drive = s.drive ∧
    (s.publishMotor w).grid = s.grid ∧
    (s.publishMotor w).steer = s.steer ∧
    (s.publishMotor w).load = s.load ∧
    (s.publishMotor w).link = s.link ∧
    (s.publishMotor w).scan = s.scan ∧
    (s.publishMotor w).speed = s.speed ∧
    (s.publishMotor w).supervision = s.supervision ∧
    (s.publishMotor w).selfLoad = s.selfLoad ∧
    (s.publishMotor w).trace = s.trace ∧
    (s.publishMotor w).timers = s.timers := by
  unfold State.publishMotor
  try dsimp only
  (repeat' split) <;> simp

/-- What `State.takeMotorReply` leaves alone. -/
@[simp] theorem State.takeMotorReply_frame (s : State) (w : Wheel) (r : TorqueReply) :
    (s.takeMotorReply w r).pending = s.pending ∧
    (s.takeMotorReply w r).us = s.us ∧
    (s.takeMotorReply w r).freeCount = s.freeCount ∧
    (s.takeMotorReply w r).settings = s.settings ∧
    (s.takeMotorReply w r).settled = s.settled ∧
    (s.takeMotorReply w r).exchange = s.exchange ∧
    (s.takeMotorReply w r).desk = s.desk ∧
    (s.takeMotorReply w r).grid = s.grid ∧
    (s.takeMotorReply w r).steer = s.steer ∧
    (s.takeMotorReply w r).scan = s.scan ∧
    (s.takeMotorReply w r).speed = s.speed ∧
    (s.takeMotorReply w r).selfLoad = s.selfLoad ∧
    (s.takeMotorReply w r).trace = s.trace := by
  unfold State.takeMotorReply
  try dsimp only
  (repeat' split) <;> simp

/-- What `State.restartLoad` leaves alone. -/
@[simp] theorem State.restartLoad_frame (s : State) :
    (s.restartLoad).pending = s.pending ∧
    (s.restartLoad).us = s.us ∧
    (s.restartLoad).freeCount = s.freeCount ∧
    (s.restartLoad).ram = s.ram ∧
    (s.restartLoad).window = s.window ∧
    (s.restartLoad).settings = s.settings ∧
    (s.restartLoad).settled = s.settled ∧
    (s.restartLoad).exchange = s.exchange ∧
    (s.restartLoad).desk = s.desk ∧
    (s.restartLoad).faults = s.faults ∧
    (s.restartLoad).rows = s.rows ∧
    (s.restartLoad).drive = s.drive ∧
    (s.restartLoad).grid = s.grid ∧
    (s.restartLoad).steer = s.steer ∧
    (s.restartLoad).link = s.link ∧
    (s.restartLoad).scan = s.scan ∧
    (s.restartLoad).speed = s.speed ∧
    (s.restartLoad).supervision = s.supervision ∧
    (s.restartLoad).selfLoad = s.selfLoad ∧
    (s.restartLoad).trace = s.trace ∧
    (s.restartLoad).timers = s.timers ∧
    (s.restartLoad).published = s.published := by
  unfold State.restartLoad
  try dsimp only
  simp

/-- What `State.resetLoad` leaves alone. -/
@[simp] theorem State.resetLoad_frame (s : State) :
    (s.resetLoad).pending = s.pending ∧
    (s.resetLoad).us = s.us ∧
    (s.resetLoad).freeCount = s.freeCount ∧
    (s.resetLoad).ram = s.ram ∧
    (s.resetLoad).window = s.window ∧
    (s.resetLoad).settings = s.settings ∧
    (s.resetLoad).settled = s.settled ∧
    (s.resetLoad).exchange = s.exchange ∧
    (s.resetLoad).desk = s.desk ∧
    (s.resetLoad).faults = s.faults ∧
    (s.resetLoad).rows = s.rows ∧
    (s.resetLoad).drive = s.drive ∧
    (s.resetLoad).grid = s.grid ∧
    (s.resetLoad).steer = s.steer ∧
    (s.resetLoad).link = s.link ∧
    (s.resetLoad).scan = s.scan ∧
    (s.resetLoad).speed = s.speed ∧
    (s.resetLoad).supervision = s.supervision ∧
    (s.resetLoad).selfLoad = s.selfLoad ∧
    (s.resetLoad).trace = s.trace ∧
    (s.resetLoad).timers = s.timers ∧
    (s.resetLoad).published = s.published := by
  unfold State.resetLoad
  try dsimp only
  simp

end Sys2Proof.Machine
end

