-- ==== Sys2Proof/Laws/FrameSteeringServo.lean ====
section
/-! SUPPORT. What each operation of Machine/SteeringServo.lean leaves alone: every field of the State that it does not name
keeps its value. -/

namespace Sys2Proof.Machine

/-- What `State.publishSteer` leaves alone. -/
@[simp] theorem State.publishSteer_frame (s : State) :
    (s.publishSteer).pending = s.pending ∧
    (s.publishSteer).us = s.us ∧
    (s.publishSteer).freeCount = s.freeCount ∧
    (s.publishSteer).ram = s.ram ∧
    (s.publishSteer).window = s.window ∧
    (s.publishSteer).settings = s.settings ∧
    (s.publishSteer).settled = s.settled ∧
    (s.publishSteer).exchange = s.exchange ∧
    (s.publishSteer).desk = s.desk ∧
    (s.publishSteer).faults = s.faults ∧
    (s.publishSteer).rows = s.rows ∧
    (s.publishSteer).drive = s.drive ∧
    (s.publishSteer).grid = s.grid ∧
    (s.publishSteer).steer = s.steer ∧
    (s.publishSteer).load = s.load ∧
    (s.publishSteer).link = s.link ∧
    (s.publishSteer).scan = s.scan ∧
    (s.publishSteer).speed = s.speed ∧
    (s.publishSteer).supervision = s.supervision ∧
    (s.publishSteer).selfLoad = s.selfLoad ∧
    (s.publishSteer).trace = s.trace ∧
    (s.publishSteer).timers = s.timers := by
  unfold State.publishSteer
  try dsimp only
  (repeat' split) <;> simp

/-- What `State.writeFlow` leaves alone. -/
@[simp] theorem State.writeFlow_frame (s : State) (flow : Int) :
    (s.writeFlow flow).pending = s.pending ∧
    (s.writeFlow flow).us = s.us ∧
    (s.writeFlow flow).freeCount = s.freeCount ∧
    (s.writeFlow flow).ram = s.ram ∧
    (s.writeFlow flow).window = s.window ∧
    (s.writeFlow flow).settings = s.settings ∧
    (s.writeFlow flow).settled = s.settled ∧
    (s.writeFlow flow).exchange = s.exchange ∧
    (s.writeFlow flow).desk = s.desk ∧
    (s.writeFlow flow).faults = s.faults ∧
    (s.writeFlow flow).rows = s.rows ∧
    (s.writeFlow flow).drive = s.drive ∧
    (s.writeFlow flow).grid = s.grid ∧
    (s.writeFlow flow).load = s.load ∧
    (s.writeFlow flow).scan = s.scan ∧
    (s.writeFlow flow).speed = s.speed ∧
    (s.writeFlow flow).supervision = s.supervision ∧
    (s.writeFlow flow).selfLoad = s.selfLoad ∧
    (s.writeFlow flow).trace = s.trace ∧
    (s.writeFlow flow).timers = s.timers ∧
    (s.writeFlow flow).published = s.published := by
  unfold State.writeFlow
  try dsimp only
  simp

/-- What `State.writeReserveRow` leaves alone. -/
@[simp] theorem State.writeReserveRow_frame (s : State) :
    (s.writeReserveRow).pending = s.pending ∧
    (s.writeReserveRow).us = s.us ∧
    (s.writeReserveRow).freeCount = s.freeCount ∧
    (s.writeReserveRow).ram = s.ram ∧
    (s.writeReserveRow).window = s.window ∧
    (s.writeReserveRow).settings = s.settings ∧
    (s.writeReserveRow).settled = s.settled ∧
    (s.writeReserveRow).exchange = s.exchange ∧
    (s.writeReserveRow).desk = s.desk ∧
    (s.writeReserveRow).faults = s.faults ∧
    (s.writeReserveRow).drive = s.drive ∧
    (s.writeReserveRow).grid = s.grid ∧
    (s.writeReserveRow).load = s.load ∧
    (s.writeReserveRow).link = s.link ∧
    (s.writeReserveRow).scan = s.scan ∧
    (s.writeReserveRow).speed = s.speed ∧
    (s.writeReserveRow).supervision = s.supervision ∧
    (s.writeReserveRow).selfLoad = s.selfLoad ∧
    (s.writeReserveRow).trace = s.trace ∧
    (s.writeReserveRow).timers = s.timers ∧
    (s.writeReserveRow).published = s.published := by
  unfold State.writeReserveRow
  try dsimp only
  (repeat' split) <;> simp

/-- What `State.failServo` leaves alone. -/
@[simp] theorem State.failServo_frame (s : State) (c : FaultCode) :
    (s.failServo c).pending = s.pending ∧
    (s.failServo c).us = s.us ∧
    (s.failServo c).freeCount = s.freeCount ∧
    (s.failServo c).ram = s.ram ∧
    (s.failServo c).window = s.window ∧
    (s.failServo c).settings = s.settings ∧
    (s.failServo c).settled = s.settled ∧
    (s.failServo c).exchange = s.exchange ∧
    (s.failServo c).desk = s.desk ∧
    (s.failServo c).faults = s.faults ∧
    (s.failServo c).drive = s.drive ∧
    (s.failServo c).grid = s.grid ∧
    (s.failServo c).load = s.load ∧
    (s.failServo c).scan = s.scan ∧
    (s.failServo c).speed = s.speed ∧
    (s.failServo c).supervision = s.supervision ∧
    (s.failServo c).selfLoad = s.selfLoad ∧
    (s.failServo c).trace = s.trace ∧
    (s.failServo c).timers = s.timers := by
  unfold State.failServo
  try dsimp only
  simp

/-- What `State.takeFailure` leaves alone. -/
@[simp] theorem State.takeFailure_frame (s : State) (c : FaultCode) (fresh : Bool) :
    (s.takeFailure c fresh).pending = s.pending ∧
    (s.takeFailure c fresh).us = s.us ∧
    (s.takeFailure c fresh).freeCount = s.freeCount ∧
    (s.takeFailure c fresh).ram = s.ram ∧
    (s.takeFailure c fresh).window = s.window ∧
    (s.takeFailure c fresh).settings = s.settings ∧
    (s.takeFailure c fresh).settled = s.settled ∧
    (s.takeFailure c fresh).exchange = s.exchange ∧
    (s.takeFailure c fresh).desk = s.desk ∧
    (s.takeFailure c fresh).faults = s.faults ∧
    (s.takeFailure c fresh).drive = s.drive ∧
    (s.takeFailure c fresh).grid = s.grid ∧
    (s.takeFailure c fresh).load = s.load ∧
    (s.takeFailure c fresh).scan = s.scan ∧
    (s.takeFailure c fresh).speed = s.speed ∧
    (s.takeFailure c fresh).supervision = s.supervision ∧
    (s.takeFailure c fresh).selfLoad = s.selfLoad ∧
    (s.takeFailure c fresh).trace = s.trace ∧
    (s.takeFailure c fresh).timers = s.timers := by
  unfold State.takeFailure
  try dsimp only
  (repeat' split) <;> simp

/-- What `State.wakeServo` leaves alone. -/
@[simp] theorem State.wakeServo_frame (s : State) :
    (s.wakeServo).pending = s.pending ∧
    (s.wakeServo).us = s.us ∧
    (s.wakeServo).freeCount = s.freeCount ∧
    (s.wakeServo).ram = s.ram ∧
    (s.wakeServo).window = s.window ∧
    (s.wakeServo).settings = s.settings ∧
    (s.wakeServo).settled = s.settled ∧
    (s.wakeServo).exchange = s.exchange ∧
    (s.wakeServo).desk = s.desk ∧
    (s.wakeServo).faults = s.faults ∧
    (s.wakeServo).rows = s.rows ∧
    (s.wakeServo).drive = s.drive ∧
    (s.wakeServo).grid = s.grid ∧
    (s.wakeServo).load = s.load ∧
    (s.wakeServo).link = s.link ∧
    (s.wakeServo).scan = s.scan ∧
    (s.wakeServo).speed = s.speed ∧
    (s.wakeServo).supervision = s.supervision ∧
    (s.wakeServo).selfLoad = s.selfLoad ∧
    (s.wakeServo).trace = s.trace ∧
    (s.wakeServo).timers = s.timers ∧
    (s.wakeServo).published = s.published := by
  unfold State.wakeServo
  try dsimp only
  (repeat' split) <;> simp

/-- What `State.judgeFeedback` leaves alone. -/
@[simp] theorem State.judgeFeedback_frame (s : State) :
    (s.judgeFeedback).1.pending = s.pending ∧
    (s.judgeFeedback).1.us = s.us ∧
    (s.judgeFeedback).1.freeCount = s.freeCount ∧
    (s.judgeFeedback).1.settings = s.settings ∧
    (s.judgeFeedback).1.settled = s.settled ∧
    (s.judgeFeedback).1.exchange = s.exchange ∧
    (s.judgeFeedback).1.desk = s.desk ∧
    (s.judgeFeedback).1.grid = s.grid ∧
    (s.judgeFeedback).1.load = s.load ∧
    (s.judgeFeedback).1.scan = s.scan ∧
    (s.judgeFeedback).1.speed = s.speed ∧
    (s.judgeFeedback).1.selfLoad = s.selfLoad ∧
    (s.judgeFeedback).1.trace = s.trace := by
  unfold State.judgeFeedback
  try dsimp only
  (repeat' split) <;> simp

/-- What `State.judgeSupplyHigh` leaves alone. -/
@[simp] theorem State.judgeSupplyHigh_frame (s : State) (below : Bool) :
    (s.judgeSupplyHigh below).pending = s.pending ∧
    (s.judgeSupplyHigh below).us = s.us ∧
    (s.judgeSupplyHigh below).freeCount = s.freeCount ∧
    (s.judgeSupplyHigh below).settings = s.settings ∧
    (s.judgeSupplyHigh below).settled = s.settled ∧
    (s.judgeSupplyHigh below).exchange = s.exchange ∧
    (s.judgeSupplyHigh below).desk = s.desk ∧
    (s.judgeSupplyHigh below).grid = s.grid ∧
    (s.judgeSupplyHigh below).load = s.load ∧
    (s.judgeSupplyHigh below).scan = s.scan ∧
    (s.judgeSupplyHigh below).speed = s.speed ∧
    (s.judgeSupplyHigh below).selfLoad = s.selfLoad ∧
    (s.judgeSupplyHigh below).trace = s.trace := by
  unfold State.judgeSupplyHigh
  try dsimp only
  (repeat' split) <;> simp

/-- What `State.judgeSupplyLow` leaves alone. -/
@[simp] theorem State.judgeSupplyLow_frame (s : State) (recovered : Bool) :
    (s.judgeSupplyLow recovered).pending = s.pending ∧
    (s.judgeSupplyLow recovered).us = s.us ∧
    (s.judgeSupplyLow recovered).freeCount = s.freeCount ∧
    (s.judgeSupplyLow recovered).window = s.window ∧
    (s.judgeSupplyLow recovered).settings = s.settings ∧
    (s.judgeSupplyLow recovered).settled = s.settled ∧
    (s.judgeSupplyLow recovered).exchange = s.exchange ∧
    (s.judgeSupplyLow recovered).desk = s.desk ∧
    (s.judgeSupplyLow recovered).rows = s.rows ∧
    (s.judgeSupplyLow recovered).drive = s.drive ∧
    (s.judgeSupplyLow recovered).grid = s.grid ∧
    (s.judgeSupplyLow recovered).load = s.load ∧
    (s.judgeSupplyLow recovered).link = s.link ∧
    (s.judgeSupplyLow recovered).scan = s.scan ∧
    (s.judgeSupplyLow recovered).speed = s.speed ∧
    (s.judgeSupplyLow recovered).supervision = s.supervision ∧
    (s.judgeSupplyLow recovered).selfLoad = s.selfLoad ∧
    (s.judgeSupplyLow recovered).trace = s.trace ∧
    (s.judgeSupplyLow recovered).timers = s.timers ∧
    (s.judgeSupplyLow recovered).published = s.published := by
  unfold State.judgeSupplyLow
  try dsimp only
  (repeat' split) <;> simp

/-- What `State.judgeSupply` leaves alone. -/
@[simp] theorem State.judgeSupply_frame (s : State) :
    (s.judgeSupply).pending = s.pending ∧
    (s.judgeSupply).us = s.us ∧
    (s.judgeSupply).freeCount = s.freeCount ∧
    (s.judgeSupply).settings = s.settings ∧
    (s.judgeSupply).settled = s.settled ∧
    (s.judgeSupply).exchange = s.exchange ∧
    (s.judgeSupply).desk = s.desk ∧
    (s.judgeSupply).grid = s.grid ∧
    (s.judgeSupply).load = s.load ∧
    (s.judgeSupply).scan = s.scan ∧
    (s.judgeSupply).speed = s.speed ∧
    (s.judgeSupply).selfLoad = s.selfLoad ∧
    (s.judgeSupply).trace = s.trace := by
  unfold State.judgeSupply
  try dsimp only
  (repeat' split) <;> simp

/-- What `State.judgeAccumulator` leaves alone. -/
@[simp] theorem State.judgeAccumulator_frame (s : State) (given : Bool) :
    (s.judgeAccumulator given).pending = s.pending ∧
    (s.judgeAccumulator given).us = s.us ∧
    (s.judgeAccumulator given).freeCount = s.freeCount ∧
    (s.judgeAccumulator given).settings = s.settings ∧
    (s.judgeAccumulator given).settled = s.settled ∧
    (s.judgeAccumulator given).exchange = s.exchange ∧
    (s.judgeAccumulator given).desk = s.desk ∧
    (s.judgeAccumulator given).grid = s.grid ∧
    (s.judgeAccumulator given).load = s.load ∧
    (s.judgeAccumulator given).scan = s.scan ∧
    (s.judgeAccumulator given).speed = s.speed ∧
    (s.judgeAccumulator given).selfLoad = s.selfLoad ∧
    (s.judgeAccumulator given).trace = s.trace := by
  unfold State.judgeAccumulator
  try dsimp only
  (repeat' split) <;> simp

/-- What `State.takeDemand` leaves alone. -/
@[simp] theorem State.takeDemand_frame (s : State) :
    (s.takeDemand).pending = s.pending ∧
    (s.takeDemand).us = s.us ∧
    (s.takeDemand).freeCount = s.freeCount ∧
    (s.takeDemand).ram = s.ram ∧
    (s.takeDemand).window = s.window ∧
    (s.takeDemand).settings = s.settings ∧
    (s.takeDemand).settled = s.settled ∧
    (s.takeDemand).exchange = s.exchange ∧
    (s.takeDemand).desk = s.desk ∧
    (s.takeDemand).faults = s.faults ∧
    (s.takeDemand).rows = s.rows ∧
    (s.takeDemand).drive = s.drive ∧
    (s.takeDemand).grid = s.grid ∧
    (s.takeDemand).load = s.load ∧
    (s.takeDemand).link = s.link ∧
    (s.takeDemand).scan = s.scan ∧
    (s.takeDemand).speed = s.speed ∧
    (s.takeDemand).supervision = s.supervision ∧
    (s.takeDemand).selfLoad = s.selfLoad ∧
    (s.takeDemand).trace = s.trace ∧
    (s.takeDemand).timers = s.timers ∧
    (s.takeDemand).published = s.published := by
  unfold State.takeDemand
  try dsimp only
  (repeat' split) <;> simp

/-- What `State.limitAngle` leaves alone. -/
@[simp] theorem State.limitAngle_frame (s : State) :
    (s.limitAngle).pending = s.pending ∧
    (s.limitAngle).us = s.us ∧
    (s.limitAngle).freeCount = s.freeCount ∧
    (s.limitAngle).ram = s.ram ∧
    (s.limitAngle).window = s.window ∧
    (s.limitAngle).settings = s.settings ∧
    (s.limitAngle).settled = s.settled ∧
    (s.limitAngle).exchange = s.exchange ∧
    (s.limitAngle).desk = s.desk ∧
    (s.limitAngle).faults = s.faults ∧
    (s.limitAngle).rows = s.rows ∧
    (s.limitAngle).drive = s.drive ∧
    (s.limitAngle).grid = s.grid ∧
    (s.limitAngle).load = s.load ∧
    (s.limitAngle).link = s.link ∧
    (s.limitAngle).scan = s.scan ∧
    (s.limitAngle).speed = s.speed ∧
    (s.limitAngle).supervision = s.supervision ∧
    (s.limitAngle).selfLoad = s.selfLoad ∧
    (s.limitAngle).trace = s.trace ∧
    (s.limitAngle).timers = s.timers ∧
    (s.limitAngle).published = s.published := by
  unfold State.limitAngle
  try dsimp only
  simp

/-- What `State.moveTarget` leaves alone. -/
@[simp] theorem State.moveTarget_frame (s : State) :
    (s.moveTarget).pending = s.pending ∧
    (s.moveTarget).us = s.us ∧
    (s.moveTarget).freeCount = s.freeCount ∧
    (s.moveTarget).ram = s.ram ∧
    (s.moveTarget).window = s.window ∧
    (s.moveTarget).settings = s.settings ∧
    (s.moveTarget).settled = s.settled ∧
    (s.moveTarget).exchange = s.exchange ∧
    (s.moveTarget).desk = s.desk ∧
    (s.moveTarget).faults = s.faults ∧
    (s.moveTarget).rows = s.rows ∧
    (s.moveTarget).drive = s.drive ∧
    (s.moveTarget).grid = s.grid ∧
    (s.moveTarget).load = s.load ∧
    (s.moveTarget).link = s.link ∧
    (s.moveTarget).scan = s.scan ∧
    (s.moveTarget).speed = s.speed ∧
    (s.moveTarget).supervision = s.supervision ∧
    (s.moveTarget).selfLoad = s.selfLoad ∧
    (s.moveTarget).trace = s.trace ∧
    (s.moveTarget).timers = s.timers ∧
    (s.moveTarget).published = s.published := by
  unfold State.moveTarget
  try dsimp only
  (repeat' split) <;> simp

/-- What `State.judgeTracking` leaves alone. -/
@[simp] theorem State.judgeTracking_frame (s : State) :
    (s.judgeTracking).pending = s.pending ∧
    (s.judgeTracking).us = s.us ∧
    (s.judgeTracking).freeCount = s.freeCount ∧
    (s.judgeTracking).settings = s.settings ∧
    (s.judgeTracking).settled = s.settled ∧
    (s.judgeTracking).exchange = s.exchange ∧
    (s.judgeTracking).desk = s.desk ∧
    (s.judgeTracking).grid = s.grid ∧
    (s.judgeTracking).load = s.load ∧
    (s.judgeTracking).scan = s.scan ∧
    (s.judgeTracking).speed = s.speed ∧
    (s.judgeTracking).selfLoad = s.selfLoad ∧
    (s.judgeTracking).trace = s.trace := by
  unfold State.judgeTracking
  try dsimp only
  (repeat' split) <;> simp

/-- What `State.trackRatios` leaves alone. -/
@[simp] theorem State.trackRatios_frame (s : State) :
    (s.trackRatios).pending = s.pending ∧
    (s.trackRatios).us = s.us ∧
    (s.trackRatios).freeCount = s.freeCount ∧
    (s.trackRatios).ram = s.ram ∧
    (s.trackRatios).window = s.window ∧
    (s.trackRatios).settings = s.settings ∧
    (s.trackRatios).settled = s.settled ∧
    (s.trackRatios).exchange = s.exchange ∧
    (s.trackRatios).desk = s.desk ∧
    (s.trackRatios).faults = s.faults ∧
    (s.trackRatios).rows = s.rows ∧
    (s.trackRatios).drive = s.drive ∧
    (s.trackRatios).grid = s.grid ∧
    (s.trackRatios).load = s.load ∧
    (s.trackRatios).link = s.link ∧
    (s.trackRatios).scan = s.scan ∧
    (s.trackRatios).speed = s.speed ∧
    (s.trackRatios).supervision = s.supervision ∧
    (s.trackRatios).selfLoad = s.selfLoad ∧
    (s.trackRatios).trace = s.trace ∧
    (s.trackRatios).timers = s.timers ∧
    (s.trackRatios).published = s.published := by
  unfold State.trackRatios
  try dsimp only
  (repeat' split) <;> simp

/-- What `State.writeCurveRow` leaves alone. -/
@[simp] theorem State.writeCurveRow_frame (s : State) :
    (s.writeCurveRow).pending = s.pending ∧
    (s.writeCurveRow).us = s.us ∧
    (s.writeCurveRow).freeCount = s.freeCount ∧
    (s.writeCurveRow).ram = s.ram ∧
    (s.writeCurveRow).window = s.window ∧
    (s.writeCurveRow).settings = s.settings ∧
    (s.writeCurveRow).settled = s.settled ∧
    (s.writeCurveRow).exchange = s.exchange ∧
    (s.writeCurveRow).desk = s.desk ∧
    (s.writeCurveRow).faults = s.faults ∧
    (s.writeCurveRow).drive = s.drive ∧
    (s.writeCurveRow).grid = s.grid ∧
    (s.writeCurveRow).load = s.load ∧
    (s.writeCurveRow).link = s.link ∧
    (s.writeCurveRow).scan = s.scan ∧
    (s.writeCurveRow).speed = s.speed ∧
    (s.writeCurveRow).supervision = s.supervision ∧
    (s.writeCurveRow).selfLoad = s.selfLoad ∧
    (s.writeCurveRow).trace = s.trace ∧
    (s.writeCurveRow).timers = s.timers ∧
    (s.writeCurveRow).published = s.published := by
  unfold State.writeCurveRow
  try dsimp only
  (repeat' split) <;> simp

/-- What `State.refreshReserveRow` leaves alone. -/
@[simp] theorem State.refreshReserveRow_frame (s : State) :
    (s.refreshReserveRow).pending = s.pending ∧
    (s.refreshReserveRow).us = s.us ∧
    (s.refreshReserveRow).freeCount = s.freeCount ∧
    (s.refreshReserveRow).ram = s.ram ∧
    (s.refreshReserveRow).window = s.window ∧
    (s.refreshReserveRow).settings = s.settings ∧
    (s.refreshReserveRow).settled = s.settled ∧
    (s.refreshReserveRow).exchange = s.exchange ∧
    (s.refreshReserveRow).desk = s.desk ∧
    (s.refreshReserveRow).faults = s.faults ∧
    (s.refreshReserveRow).drive = s.drive ∧
    (s.refreshReserveRow).grid = s.grid ∧
    (s.refreshReserveRow).load = s.load ∧
    (s.refreshReserveRow).link = s.link ∧
    (s.refreshReserveRow).scan = s.scan ∧
    (s.refreshReserveRow).speed = s.speed ∧
    (s.refreshReserveRow).supervision = s.supervision ∧
    (s.refreshReserveRow).selfLoad = s.selfLoad ∧
    (s.refreshReserveRow).trace = s.trace ∧
    (s.refreshReserveRow).timers = s.timers ∧
    (s.refreshReserveRow).published = s.published := by
  unfold State.refreshReserveRow
  try dsimp only
  (repeat' split) <;> simp

/-- What `State.steeringFrame` leaves alone. -/
@[simp] theorem State.steeringFrame_frame (s : State) :
    (s.steeringFrame).pending = s.pending ∧
    (s.steeringFrame).us = s.us ∧
    (s.steeringFrame).settings = s.settings ∧
    (s.steeringFrame).settled = s.settled ∧
    (s.steeringFrame).exchange = s.exchange ∧
    (s.steeringFrame).desk = s.desk ∧
    (s.steeringFrame).grid = s.grid ∧
    (s.steeringFrame).load = s.load ∧
    (s.steeringFrame).scan = s.scan ∧
    (s.steeringFrame).speed = s.speed ∧
    (s.steeringFrame).selfLoad = s.selfLoad ∧
    (s.steeringFrame).trace = s.trace := by
  unfold State.steeringFrame
  try dsimp only
  (repeat' split) <;> simp

/-- What `State.takeValveReply` leaves alone. -/
@[simp] theorem State.takeValveReply_frame (s : State) (r : ValveReply) :
    (s.takeValveReply r).pending = s.pending ∧
    (s.takeValveReply r).us = s.us ∧
    (s.takeValveReply r).freeCount = s.freeCount ∧
    (s.takeValveReply r).settings = s.settings ∧
    (s.takeValveReply r).settled = s.settled ∧
    (s.takeValveReply r).exchange = s.exchange ∧
    (s.takeValveReply r).desk = s.desk ∧
    (s.takeValveReply r).grid = s.grid ∧
    (s.takeValveReply r).load = s.load ∧
    (s.takeValveReply r).scan = s.scan ∧
    (s.takeValveReply r).speed = s.speed ∧
    (s.takeValveReply r).selfLoad = s.selfLoad ∧
    (s.takeValveReply r).trace = s.trace := by
  unfold State.takeValveReply
  try dsimp only
  (repeat' split) <;> simp

/-- What `State.stationFourLost` leaves alone. -/
@[simp] theorem State.stationFourLost_frame (s : State) :
    (s.stationFourLost).pending = s.pending ∧
    (s.stationFourLost).us = s.us ∧
    (s.stationFourLost).freeCount = s.freeCount ∧
    (s.stationFourLost).ram = s.ram ∧
    (s.stationFourLost).window = s.window ∧
    (s.stationFourLost).settings = s.settings ∧
    (s.stationFourLost).settled = s.settled ∧
    (s.stationFourLost).exchange = s.exchange ∧
    (s.stationFourLost).desk = s.desk ∧
    (s.stationFourLost).faults = s.faults ∧
    (s.stationFourLost).drive = s.drive ∧
    (s.stationFourLost).grid = s.grid ∧
    (s.stationFourLost).load = s.load ∧
    (s.stationFourLost).scan = s.scan ∧
    (s.stationFourLost).speed = s.speed ∧
    (s.stationFourLost).supervision = s.supervision ∧
    (s.stationFourLost).selfLoad = s.selfLoad ∧
    (s.stationFourLost).trace = s.trace ∧
    (s.stationFourLost).timers = s.timers := by
  unfold State.stationFourLost
  try dsimp only
  simp

/-- What `State.tellSteer` leaves alone. -/
@[simp] theorem State.tellSteer_frame (s : State) (c : FaultCode) :
    (s.tellSteer c).pending = s.pending ∧
    (s.tellSteer c).us = s.us ∧
    (s.tellSteer c).freeCount = s.freeCount ∧
    (s.tellSteer c).ram = s.ram ∧
    (s.tellSteer c).window = s.window ∧
    (s.tellSteer c).settings = s.settings ∧
    (s.tellSteer c).settled = s.settled ∧
    (s.tellSteer c).exchange = s.exchange ∧
    (s.tellSteer c).desk = s.desk ∧
    (s.tellSteer c).faults = s.faults ∧
    (s.tellSteer c).drive = s.drive ∧
    (s.tellSteer c).grid = s.grid ∧
    (s.tellSteer c).load = s.load ∧
    (s.tellSteer c).link = s.link ∧
    (s.tellSteer c).scan = s.scan ∧
    (s.tellSteer c).speed = s.speed ∧
    (s.tellSteer c).supervision = s.supervision ∧
    (s.tellSteer c).selfLoad = s.selfLoad ∧
    (s.tellSteer c).trace = s.trace ∧
    (s.tellSteer c).timers = s.timers := by
  unfold State.tellSteer
  try dsimp only
  (repeat' split) <;> simp

/-- What `State.restartSteer` leaves alone. -/
@[simp] theorem State.restartSteer_frame (s : State) :
    (s.restartSteer).pending = s.pending ∧
    (s.restartSteer).us = s.us ∧
    (s.restartSteer).freeCount = s.freeCount ∧
    (s.restartSteer).ram = s.ram ∧
    (s.restartSteer).window = s.window ∧
    (s.restartSteer).settings = s.settings ∧
    (s.restartSteer).settled = s.settled ∧
    (s.restartSteer).exchange = s.exchange ∧
    (s.restartSteer).desk = s.desk ∧
    (s.restartSteer).faults = s.faults ∧
    (s.restartSteer).rows = s.rows ∧
    (s.restartSteer).drive = s.drive ∧
    (s.restartSteer).grid = s.grid ∧
    (s.restartSteer).load = s.load ∧
    (s.restartSteer).scan = s.scan ∧
    (s.restartSteer).speed = s.speed ∧
    (s.restartSteer).supervision = s.supervision ∧
    (s.restartSteer).selfLoad = s.selfLoad ∧
    (s.restartSteer).trace = s.trace ∧
    (s.restartSteer).published = s.published := by
  unfold State.restartSteer
  try dsimp only
  simp

/-- What `State.startSteerTimer` leaves alone. -/
@[simp] theorem State.startSteerTimer_frame (s : State) :
    (s.startSteerTimer).pending = s.pending ∧
    (s.startSteerTimer).us = s.us ∧
    (s.startSteerTimer).freeCount = s.freeCount ∧
    (s.startSteerTimer).ram = s.ram ∧
    (s.startSteerTimer).window = s.window ∧
    (s.startSteerTimer).settings = s.settings ∧
    (s.startSteerTimer).settled = s.settled ∧
    (s.startSteerTimer).exchange = s.exchange ∧
    (s.startSteerTimer).desk = s.desk ∧
    (s.startSteerTimer).faults = s.faults ∧
    (s.startSteerTimer).rows = s.rows ∧
    (s.startSteerTimer).drive = s.drive ∧
    (s.startSteerTimer).grid = s.grid ∧
    (s.startSteerTimer).load = s.load ∧
    (s.startSteerTimer).link = s.link ∧
    (s.startSteerTimer).scan = s.scan ∧
    (s.startSteerTimer).speed = s.speed ∧
    (s.startSteerTimer).supervision = s.supervision ∧
    (s.startSteerTimer).selfLoad = s.selfLoad ∧
    (s.startSteerTimer).trace = s.trace ∧
    (s.startSteerTimer).published = s.published := by
  unfold State.startSteerTimer
  try dsimp only
  (repeat' split) <;> simp

/-- What `State.resetSteer` leaves alone. -/
@[simp] theorem State.resetSteer_frame (s : State) :
    (s.resetSteer).pending = s.pending ∧
    (s.resetSteer).us = s.us ∧
    (s.resetSteer).freeCount = s.freeCount ∧
    (s.resetSteer).ram = s.ram ∧
    (s.resetSteer).window = s.window ∧
    (s.resetSteer).settings = s.settings ∧
    (s.resetSteer).settled = s.settled ∧
    (s.resetSteer).exchange = s.exchange ∧
    (s.resetSteer).desk = s.desk ∧
    (s.resetSteer).faults = s.faults ∧
    (s.resetSteer).rows = s.rows ∧
    (s.resetSteer).drive = s.drive ∧
    (s.resetSteer).grid = s.grid ∧
    (s.resetSteer).load = s.load ∧
    (s.resetSteer).scan = s.scan ∧
    (s.resetSteer).speed = s.speed ∧
    (s.resetSteer).supervision = s.supervision ∧
    (s.resetSteer).selfLoad = s.selfLoad ∧
    (s.resetSteer).trace = s.trace ∧
    (s.resetSteer).published = s.published := by
  unfold State.resetSteer
  try dsimp only
  (repeat' split) <;> simp

end Sys2Proof.Machine
end

