-- ==== Sys2Proof/Laws/FrameScanUnit.lean ====
section
/-! SUPPORT. What each operation of Machine/ScanUnit.lean leaves alone: every field of the State that it does not name
keeps its value. -/

namespace Sys2Proof.Machine

/-- What `State.publishScan` leaves alone. -/
@[simp] theorem State.publishScan_frame (s : State) :
    (s.publishScan).pending = s.pending ∧
    (s.publishScan).us = s.us ∧
    (s.publishScan).freeCount = s.freeCount ∧
    (s.publishScan).ram = s.ram ∧
    (s.publishScan).window = s.window ∧
    (s.publishScan).settings = s.settings ∧
    (s.publishScan).settled = s.settled ∧
    (s.publishScan).exchange = s.exchange ∧
    (s.publishScan).desk = s.desk ∧
    (s.publishScan).faults = s.faults ∧
    (s.publishScan).rows = s.rows ∧
    (s.publishScan).drive = s.drive ∧
    (s.publishScan).grid = s.grid ∧
    (s.publishScan).steer = s.steer ∧
    (s.publishScan).load = s.load ∧
    (s.publishScan).link = s.link ∧
    (s.publishScan).scan = s.scan ∧
    (s.publishScan).speed = s.speed ∧
    (s.publishScan).supervision = s.supervision ∧
    (s.publishScan).selfLoad = s.selfLoad ∧
    (s.publishScan).trace = s.trace ∧
    (s.publishScan).timers = s.timers := by
  unfold State.publishScan
  try dsimp only
  simp

/-- What `State.strobe` leaves alone. -/
@[simp] theorem State.strobe_frame (s : State) :
    (s.strobe).pending = s.pending ∧
    (s.strobe).us = s.us ∧
    (s.strobe).freeCount = s.freeCount ∧
    (s.strobe).ram = s.ram ∧
    (s.strobe).window = s.window ∧
    (s.strobe).settings = s.settings ∧
    (s.strobe).settled = s.settled ∧
    (s.strobe).exchange = s.exchange ∧
    (s.strobe).desk = s.desk ∧
    (s.strobe).faults = s.faults ∧
    (s.strobe).rows = s.rows ∧
    (s.strobe).drive = s.drive ∧
    (s.strobe).grid = s.grid ∧
    (s.strobe).steer = s.steer ∧
    (s.strobe).load = s.load ∧
    (s.strobe).link = s.link ∧
    (s.strobe).speed = s.speed ∧
    (s.strobe).supervision = s.supervision ∧
    (s.strobe).selfLoad = s.selfLoad ∧
    (s.strobe).trace = s.trace ∧
    (s.strobe).published = s.published := by
  unfold State.strobe
  try dsimp only
  (repeat' split) <;> simp

/-- What `State.writeSample` leaves alone. -/
@[simp] theorem State.writeSample_frame (s : State) (r : Role) (x : Sample) :
    (s.writeSample r x).pending = s.pending ∧
    (s.writeSample r x).us = s.us ∧
    (s.writeSample r x).freeCount = s.freeCount ∧
    (s.writeSample r x).settings = s.settings ∧
    (s.writeSample r x).settled = s.settled ∧
    (s.writeSample r x).exchange = s.exchange ∧
    (s.writeSample r x).desk = s.desk ∧
    (s.writeSample r x).grid = s.grid ∧
    (s.writeSample r x).steer = s.steer ∧
    (s.writeSample r x).load = s.load ∧
    (s.writeSample r x).speed = s.speed ∧
    (s.writeSample r x).selfLoad = s.selfLoad ∧
    (s.writeSample r x).trace = s.trace := by
  unfold State.writeSample
  try dsimp only
  (repeat' split) <;> simp

/-- What `State.scanPass` leaves alone. -/
@[simp] theorem State.scanPass_frame (s : State) :
    (s.scanPass).pending = s.pending ∧
    (s.scanPass).us = s.us ∧
    (s.scanPass).freeCount = s.freeCount ∧
    (s.scanPass).settings = s.settings ∧
    (s.scanPass).exchange = s.exchange ∧
    (s.scanPass).scan = s.scan ∧
    (s.scanPass).speed = s.speed ∧
    (s.scanPass).selfLoad = s.selfLoad ∧
    (s.scanPass).trace = s.trace := by
  unfold State.scanPass
  try dsimp only
  simp

/-- What `State.advanceScan` leaves alone. -/
@[simp] theorem State.advanceScan_frame (s : State) (entries : Nat) :
    (s.advanceScan entries).pending = s.pending ∧
    (s.advanceScan entries).us = s.us ∧
    (s.advanceScan entries).freeCount = s.freeCount ∧
    (s.advanceScan entries).settings = s.settings ∧
    (s.advanceScan entries).exchange = s.exchange ∧
    (s.advanceScan entries).speed = s.speed ∧
    (s.advanceScan entries).selfLoad = s.selfLoad ∧
    (s.advanceScan entries).trace = s.trace := by
  unfold State.advanceScan
  try dsimp only
  (repeat' split) <;> simp

/-- What `State.completeStrobe` leaves alone. -/
@[simp] theorem State.completeStrobe_frame (s : State) (codes : List Conversion) :
    (s.completeStrobe codes).pending = s.pending ∧
    (s.completeStrobe codes).us = s.us ∧
    (s.completeStrobe codes).freeCount = s.freeCount ∧
    (s.completeStrobe codes).settings = s.settings ∧
    (s.completeStrobe codes).exchange = s.exchange ∧
    (s.completeStrobe codes).speed = s.speed ∧
    (s.completeStrobe codes).selfLoad = s.selfLoad ∧
    (s.completeStrobe codes).trace = s.trace := by
  unfold State.completeStrobe
  try dsimp only
  (repeat' split) <;> simp

/-- What `State.restartScan` leaves alone. -/
@[simp] theorem State.restartScan_frame (s : State) :
    (s.restartScan).pending = s.pending ∧
    (s.restartScan).us = s.us ∧
    (s.restartScan).freeCount = s.freeCount ∧
    (s.restartScan).window = s.window ∧
    (s.restartScan).settings = s.settings ∧
    (s.restartScan).settled = s.settled ∧
    (s.restartScan).exchange = s.exchange ∧
    (s.restartScan).desk = s.desk ∧
    (s.restartScan).rows = s.rows ∧
    (s.restartScan).drive = s.drive ∧
    (s.restartScan).grid = s.grid ∧
    (s.restartScan).steer = s.steer ∧
    (s.restartScan).load = s.load ∧
    (s.restartScan).link = s.link ∧
    (s.restartScan).speed = s.speed ∧
    (s.restartScan).supervision = s.supervision ∧
    (s.restartScan).selfLoad = s.selfLoad ∧
    (s.restartScan).trace = s.trace ∧
    (s.restartScan).published = s.published := by
  unfold State.restartScan
  try dsimp only
  (repeat' split) <;> simp

/-- What `State.resetScan` leaves alone. -/
@[simp] theorem State.resetScan_frame (s : State) :
    (s.resetScan).pending = s.pending ∧
    (s.resetScan).us = s.us ∧
    (s.resetScan).freeCount = s.freeCount ∧
    (s.resetScan).ram = s.ram ∧
    (s.resetScan).window = s.window ∧
    (s.resetScan).settings = s.settings ∧
    (s.resetScan).settled = s.settled ∧
    (s.resetScan).exchange = s.exchange ∧
    (s.resetScan).desk = s.desk ∧
    (s.resetScan).faults = s.faults ∧
    (s.resetScan).rows = s.rows ∧
    (s.resetScan).drive = s.drive ∧
    (s.resetScan).grid = s.grid ∧
    (s.resetScan).steer = s.steer ∧
    (s.resetScan).load = s.load ∧
    (s.resetScan).link = s.link ∧
    (s.resetScan).speed = s.speed ∧
    (s.resetScan).supervision = s.supervision ∧
    (s.resetScan).selfLoad = s.selfLoad ∧
    (s.resetScan).trace = s.trace ∧
    (s.resetScan).published = s.published := by
  unfold State.resetScan
  try dsimp only
  simp

end Sys2Proof.Machine
end

