-- ==== Sys2Proof/Laws/FrameTraceRecorder.lean ====
section
/-! SUPPORT. What each operation of Machine/TraceRecorder.lean leaves alone: every field of the State that it does not name
keeps its value. -/

namespace Sys2Proof.Machine

/-- What `State.writeTraceItems` leaves alone. -/
@[simp] theorem State.writeTraceItems_frame (s : State) :
    (s.writeTraceItems).pending = s.pending ∧
    (s.writeTraceItems).us = s.us ∧
    (s.writeTraceItems).freeCount = s.freeCount ∧
    (s.writeTraceItems).window = s.window ∧
    (s.writeTraceItems).settings = s.settings ∧
    (s.writeTraceItems).settled = s.settled ∧
    (s.writeTraceItems).exchange = s.exchange ∧
    (s.writeTraceItems).desk = s.desk ∧
    (s.writeTraceItems).faults = s.faults ∧
    (s.writeTraceItems).rows = s.rows ∧
    (s.writeTraceItems).drive = s.drive ∧
    (s.writeTraceItems).grid = s.grid ∧
    (s.writeTraceItems).steer = s.steer ∧
    (s.writeTraceItems).load = s.load ∧
    (s.writeTraceItems).link = s.link ∧
    (s.writeTraceItems).scan = s.scan ∧
    (s.writeTraceItems).speed = s.speed ∧
    (s.writeTraceItems).supervision = s.supervision ∧
    (s.writeTraceItems).selfLoad = s.selfLoad ∧
    (s.writeTraceItems).trace = s.trace ∧
    (s.writeTraceItems).timers = s.timers ∧
    (s.writeTraceItems).published = s.published := by
  unfold State.writeTraceItems
  try dsimp only
  (repeat' split) <;> simp

/-- What `State.storeRecord` leaves alone. -/
@[simp] theorem State.storeRecord_frame (s : State) (c : TraceSettings) (record : List Word) :
    (s.storeRecord c record).pending = s.pending ∧
    (s.storeRecord c record).us = s.us ∧
    (s.storeRecord c record).freeCount = s.freeCount ∧
    (s.storeRecord c record).settings = s.settings ∧
    (s.storeRecord c record).settled = s.settled ∧
    (s.storeRecord c record).exchange = s.exchange ∧
    (s.storeRecord c record).desk = s.desk ∧
    (s.storeRecord c record).rows = s.rows ∧
    (s.storeRecord c record).drive = s.drive ∧
    (s.storeRecord c record).grid = s.grid ∧
    (s.storeRecord c record).steer = s.steer ∧
    (s.storeRecord c record).load = s.load ∧
    (s.storeRecord c record).link = s.link ∧
    (s.storeRecord c record).scan = s.scan ∧
    (s.storeRecord c record).speed = s.speed ∧
    (s.storeRecord c record).supervision = s.supervision ∧
    (s.storeRecord c record).selfLoad = s.selfLoad ∧
    (s.storeRecord c record).timers = s.timers ∧
    (s.storeRecord c record).published = s.published := by
  unfold State.storeRecord
  try dsimp only
  (repeat' split) <;> simp

/-- What `State.loseRecord` leaves alone. -/
@[simp] theorem State.loseRecord_frame (s : State) :
    (s.loseRecord).pending = s.pending ∧
    (s.loseRecord).us = s.us ∧
    (s.loseRecord).freeCount = s.freeCount ∧
    (s.loseRecord).settings = s.settings ∧
    (s.loseRecord).settled = s.settled ∧
    (s.loseRecord).exchange = s.exchange ∧
    (s.loseRecord).desk = s.desk ∧
    (s.loseRecord).grid = s.grid ∧
    (s.loseRecord).steer = s.steer ∧
    (s.loseRecord).load = s.load ∧
    (s.loseRecord).scan = s.scan ∧
    (s.loseRecord).speed = s.speed ∧
    (s.loseRecord).selfLoad = s.selfLoad := by
  unfold State.loseRecord
  try dsimp only
  (repeat' split) <;> simp

/-- What `State.formRecord` leaves alone. -/
@[simp] theorem State.formRecord_frame (s : State) (c : TraceSettings) (values : Nat → Int) :
    (s.formRecord c values).pending = s.pending ∧
    (s.formRecord c values).us = s.us ∧
    (s.formRecord c values).freeCount = s.freeCount ∧
    (s.formRecord c values).settings = s.settings ∧
    (s.formRecord c values).settled = s.settled ∧
    (s.formRecord c values).exchange = s.exchange ∧
    (s.formRecord c values).desk = s.desk ∧
    (s.formRecord c values).grid = s.grid ∧
    (s.formRecord c values).steer = s.steer ∧
    (s.formRecord c values).load = s.load ∧
    (s.formRecord c values).scan = s.scan ∧
    (s.formRecord c values).speed = s.speed ∧
    (s.formRecord c values).selfLoad = s.selfLoad := by
  unfold State.formRecord
  try dsimp only
  (repeat' split) <;> simp

/-- What `State.recordFrame` leaves alone. -/
@[simp] theorem State.recordFrame_frame (s : State) (values : Nat → Int) :
    (s.recordFrame values).pending = s.pending ∧
    (s.recordFrame values).us = s.us ∧
    (s.recordFrame values).freeCount = s.freeCount ∧
    (s.recordFrame values).settings = s.settings ∧
    (s.recordFrame values).settled = s.settled ∧
    (s.recordFrame values).exchange = s.exchange ∧
    (s.recordFrame values).desk = s.desk ∧
    (s.recordFrame values).grid = s.grid ∧
    (s.recordFrame values).steer = s.steer ∧
    (s.recordFrame values).load = s.load ∧
    (s.recordFrame values).scan = s.scan ∧
    (s.recordFrame values).speed = s.speed ∧
    (s.recordFrame values).selfLoad = s.selfLoad := by
  unfold State.recordFrame
  try dsimp only
  (repeat' split) <;> simp

/-- What `State.restartTrace` leaves alone. -/
@[simp] theorem State.restartTrace_frame (s : State) :
    (s.restartTrace).pending = s.pending ∧
    (s.restartTrace).us = s.us ∧
    (s.restartTrace).freeCount = s.freeCount ∧
    (s.restartTrace).window = s.window ∧
    (s.restartTrace).settings = s.settings ∧
    (s.restartTrace).settled = s.settled ∧
    (s.restartTrace).exchange = s.exchange ∧
    (s.restartTrace).desk = s.desk ∧
    (s.restartTrace).rows = s.rows ∧
    (s.restartTrace).drive = s.drive ∧
    (s.restartTrace).grid = s.grid ∧
    (s.restartTrace).steer = s.steer ∧
    (s.restartTrace).load = s.load ∧
    (s.restartTrace).link = s.link ∧
    (s.restartTrace).scan = s.scan ∧
    (s.restartTrace).speed = s.speed ∧
    (s.restartTrace).supervision = s.supervision ∧
    (s.restartTrace).selfLoad = s.selfLoad ∧
    (s.restartTrace).timers = s.timers ∧
    (s.restartTrace).published = s.published := by
  unfold State.restartTrace
  try dsimp only
  simp

/-- What `State.resetTrace` leaves alone. -/
@[simp] theorem State.resetTrace_frame (s : State) :
    (s.resetTrace).pending = s.pending ∧
    (s.resetTrace).us = s.us ∧
    (s.resetTrace).freeCount = s.freeCount ∧
    (s.resetTrace).window = s.window ∧
    (s.resetTrace).settings = s.settings ∧
    (s.resetTrace).settled = s.settled ∧
    (s.resetTrace).exchange = s.exchange ∧
    (s.resetTrace).desk = s.desk ∧
    (s.resetTrace).rows = s.rows ∧
    (s.resetTrace).drive = s.drive ∧
    (s.resetTrace).grid = s.grid ∧
    (s.resetTrace).steer = s.steer ∧
    (s.resetTrace).load = s.load ∧
    (s.resetTrace).link = s.link ∧
    (s.resetTrace).scan = s.scan ∧
    (s.resetTrace).speed = s.speed ∧
    (s.resetTrace).supervision = s.supervision ∧
    (s.resetTrace).selfLoad = s.selfLoad ∧
    (s.resetTrace).timers = s.timers ∧
    (s.resetTrace).published = s.published := by
  unfold State.resetTrace
  try dsimp only
  simp

end Sys2Proof.Machine
end

