-- ==== Sys2Proof/Laws/FrameStatusPage.lean ====
section
/-! SUPPORT. What each operation of Machine/StatusPage.lean leaves alone: every field of the State that it does not name
keeps its value. -/

namespace Sys2Proof.Machine

/-- What `State.writePage` leaves alone. -/
@[simp] theorem State.writePage_frame (s : State) (f : FrameValues) :
    (s.writePage f).pending = s.pending ∧
    (s.writePage f).us = s.us ∧
    (s.writePage f).freeCount = s.freeCount ∧
    (s.writePage f).window = s.window ∧
    (s.writePage f).settings = s.settings ∧
    (s.writePage f).settled = s.settled ∧
    (s.writePage f).exchange = s.exchange ∧
    (s.writePage f).desk = s.desk ∧
    (s.writePage f).faults = s.faults ∧
    (s.writePage f).rows = s.rows ∧
    (s.writePage f).grid = s.grid ∧
    (s.writePage f).steer = s.steer ∧
    (s.writePage f).load = s.load ∧
    (s.writePage f).link = s.link ∧
    (s.writePage f).scan = s.scan ∧
    (s.writePage f).speed = s.speed ∧
    (s.writePage f).supervision = s.supervision ∧
    (s.writePage f).selfLoad = s.selfLoad ∧
    (s.writePage f).trace = s.trace ∧
    (s.writePage f).timers = s.timers ∧
    (s.writePage f).published = s.published := by
  unfold State.writePage
  try dsimp only
  simp

end Sys2Proof.Machine
end

