-- ==== Sys2Proof/Laws/FrameDriveGovernor.lean ====
section
/-! SUPPORT. What each operation of Machine/DriveGovernor.lean leaves alone: every field of the State that it does not name
keeps its value. -/

namespace Sys2Proof.Machine

/-- What `State.settleDirection` leaves alone. -/
@[simp] theorem State.settleDirection_frame (s : State) :
    (s.settleDirection).pending = s.pending ∧
    (s.settleDirection).us = s.us ∧
    (s.settleDirection).freeCount = s.freeCount ∧
    (s.settleDirection).ram = s.ram ∧
    (s.settleDirection).window = s.window ∧
    (s.settleDirection).settings = s.settings ∧
    (s.settleDirection).settled = s.settled ∧
    (s.settleDirection).exchange = s.exchange ∧
    (s.settleDirection).desk = s.desk ∧
    (s.settleDirection).faults = s.faults ∧
    (s.settleDirection).rows = s.rows ∧
    (s.settleDirection).grid = s.grid ∧
    (s.settleDirection).steer = s.steer ∧
    (s.settleDirection).load = s.load ∧
    (s.settleDirection).link = s.link ∧
    (s.settleDirection).scan = s.scan ∧
    (s.settleDirection).speed = s.speed ∧
    (s.settleDirection).supervision = s.supervision ∧
    (s.settleDirection).selfLoad = s.selfLoad ∧
    (s.settleDirection).trace = s.trace ∧
    (s.settleDirection).timers = s.timers ∧
    (s.settleDirection).published = s.published := by
  unfold State.settleDirection
  try dsimp only
  (repeat' split) <;> simp

/-- What `State.writeCeilings` leaves alone. -/
@[simp] theorem State.writeCeilings_frame (s : State) :
    (s.writeCeilings).pending = s.pending ∧
    (s.writeCeilings).us = s.us ∧
    (s.writeCeilings).freeCount = s.freeCount ∧
    (s.writeCeilings).ram = s.ram ∧
    (s.writeCeilings).window = s.window ∧
    (s.writeCeilings).settings = s.settings ∧
    (s.writeCeilings).settled = s.settled ∧
    (s.writeCeilings).exchange = s.exchange ∧
    (s.writeCeilings).desk = s.desk ∧
    (s.writeCeilings).faults = s.faults ∧
    (s.writeCeilings).drive = s.drive ∧
    (s.writeCeilings).grid = s.grid ∧
    (s.writeCeilings).steer = s.steer ∧
    (s.writeCeilings).load = s.load ∧
    (s.writeCeilings).link = s.link ∧
    (s.writeCeilings).scan = s.scan ∧
    (s.writeCeilings).speed = s.speed ∧
    (s.writeCeilings).supervision = s.supervision ∧
    (s.writeCeilings).selfLoad = s.selfLoad ∧
    (s.writeCeilings).trace = s.trace ∧
    (s.writeCeilings).timers = s.timers ∧
    (s.writeCeilings).published = s.published := by
  unfold State.writeCeilings
  try dsimp only
  (repeat' split) <;> simp

/-- What `State.takeLimits` leaves alone. -/
@[simp] theorem State.takeLimits_frame (s : State) :
    (s.takeLimits).pending = s.pending ∧
    (s.takeLimits).us = s.us ∧
    (s.takeLimits).freeCount = s.freeCount ∧
    (s.takeLimits).ram = s.ram ∧
    (s.takeLimits).settings = s.settings ∧
    (s.takeLimits).settled = s.settled ∧
    (s.takeLimits).exchange = s.exchange ∧
    (s.takeLimits).desk = s.desk ∧
    (s.takeLimits).faults = s.faults ∧
    (s.takeLimits).rows = s.rows ∧
    (s.takeLimits).grid = s.grid ∧
    (s.takeLimits).steer = s.steer ∧
    (s.takeLimits).load = s.load ∧
    (s.takeLimits).link = s.link ∧
    (s.takeLimits).scan = s.scan ∧
    (s.takeLimits).speed = s.speed ∧
    (s.takeLimits).supervision = s.supervision ∧
    (s.takeLimits).selfLoad = s.selfLoad ∧
    (s.takeLimits).trace = s.trace ∧
    (s.takeLimits).timers = s.timers ∧
    (s.takeLimits).published = s.published := by
  unfold State.takeLimits
  try dsimp only
  (repeat' split) <;> simp

/-- What `State.judgeOverspeed` leaves alone. -/
@[simp] theorem State.judgeOverspeed_frame (s : State) :
    (s.judgeOverspeed).pending = s.pending ∧
    (s.judgeOverspeed).us = s.us ∧
    (s.judgeOverspeed).freeCount = s.freeCount ∧
    (s.judgeOverspeed).settings = s.settings ∧
    (s.judgeOverspeed).settled = s.settled ∧
    (s.judgeOverspeed).exchange = s.exchange ∧
    (s.judgeOverspeed).desk = s.desk ∧
    (s.judgeOverspeed).grid = s.grid ∧
    (s.judgeOverspeed).steer = s.steer ∧
    (s.judgeOverspeed).load = s.load ∧
    (s.judgeOverspeed).scan = s.scan ∧
    (s.judgeOverspeed).speed = s.speed ∧
    (s.judgeOverspeed).selfLoad = s.selfLoad ∧
    (s.judgeOverspeed).trace = s.trace := by
  unfold State.judgeOverspeed
  try dsimp only
  (repeat' split) <;> simp

/-- What `State.endOverspeed` leaves alone. -/
@[simp] theorem State.endOverspeed_frame (s : State) :
    (s.endOverspeed).pending = s.pending ∧
    (s.endOverspeed).us = s.us ∧
    (s.endOverspeed).freeCount = s.freeCount ∧
    (s.endOverspeed).window = s.window ∧
    (s.endOverspeed).settings = s.settings ∧
    (s.endOverspeed).settled = s.settled ∧
    (s.endOverspeed).exchange = s.exchange ∧
    (s.endOverspeed).desk = s.desk ∧
    (s.endOverspeed).rows = s.rows ∧
    (s.endOverspeed).grid = s.grid ∧
    (s.endOverspeed).steer = s.steer ∧
    (s.endOverspeed).load = s.load ∧
    (s.endOverspeed).link = s.link ∧
    (s.endOverspeed).scan = s.scan ∧
    (s.endOverspeed).speed = s.speed ∧
    (s.endOverspeed).supervision = s.supervision ∧
    (s.endOverspeed).selfLoad = s.selfLoad ∧
    (s.endOverspeed).trace = s.trace ∧
    (s.endOverspeed).timers = s.timers ∧
    (s.endOverspeed).published = s.published := by
  unfold State.endOverspeed
  try dsimp only
  simp

/-- What `State.keepFrame` leaves alone. -/
@[simp] theorem State.keepFrame_frame (s : State) (f : FrameValues) (driving : Bool) :
    (s.keepFrame f driving).pending = s.pending ∧
    (s.keepFrame f driving).us = s.us ∧
    (s.keepFrame f driving).freeCount = s.freeCount ∧
    (s.keepFrame f driving).ram = s.ram ∧
    (s.keepFrame f driving).window = s.window ∧
    (s.keepFrame f driving).settings = s.settings ∧
    (s.keepFrame f driving).settled = s.settled ∧
    (s.keepFrame f driving).exchange = s.exchange ∧
    (s.keepFrame f driving).desk = s.desk ∧
    (s.keepFrame f driving).faults = s.faults ∧
    (s.keepFrame f driving).rows = s.rows ∧
    (s.keepFrame f driving).grid = s.grid ∧
    (s.keepFrame f driving).steer = s.steer ∧
    (s.keepFrame f driving).load = s.load ∧
    (s.keepFrame f driving).scan = s.scan ∧
    (s.keepFrame f driving).speed = s.speed ∧
    (s.keepFrame f driving).supervision = s.supervision ∧
    (s.keepFrame f driving).selfLoad = s.selfLoad ∧
    (s.keepFrame f driving).trace = s.trace ∧
    (s.keepFrame f driving).timers = s.timers ∧
    (s.keepFrame f driving).published = s.published := by
  unfold State.keepFrame
  try dsimp only
  simp

/-- What `State.openFrame` leaves alone. -/
@[simp] theorem State.openFrame_frame (s : State) :
    (s.openFrame).pending = s.pending ∧
    (s.openFrame).us = s.us ∧
    (s.openFrame).freeCount = s.freeCount ∧
    (s.openFrame).ram = s.ram ∧
    (s.openFrame).settings = s.settings ∧
    (s.openFrame).settled = s.settled ∧
    (s.openFrame).exchange = s.exchange ∧
    (s.openFrame).desk = s.desk ∧
    (s.openFrame).faults = s.faults ∧
    (s.openFrame).grid = s.grid ∧
    (s.openFrame).steer = s.steer ∧
    (s.openFrame).load = s.load ∧
    (s.openFrame).link = s.link ∧
    (s.openFrame).scan = s.scan ∧
    (s.openFrame).speed = s.speed ∧
    (s.openFrame).supervision = s.supervision ∧
    (s.openFrame).selfLoad = s.selfLoad ∧
    (s.openFrame).trace = s.trace ∧
    (s.openFrame).timers = s.timers ∧
    (s.openFrame).published = s.published := by
  unfold State.openFrame
  try dsimp only
  (repeat' split) <;> simp

/-- What `State.governorFrame` leaves alone. -/
@[simp] theorem State.governorFrame_frame (s : State) :
    (s.governorFrame).pending = s.pending ∧
    (s.governorFrame).us = s.us ∧
    (s.governorFrame).settings = s.settings ∧
    (s.governorFrame).settled = s.settled ∧
    (s.governorFrame).exchange = s.exchange ∧
    (s.governorFrame).desk = s.desk ∧
    (s.governorFrame).grid = s.grid ∧
    (s.governorFrame).steer = s.steer ∧
    (s.governorFrame).load = s.load ∧
    (s.governorFrame).scan = s.scan ∧
    (s.governorFrame).speed = s.speed ∧
    (s.governorFrame).selfLoad = s.selfLoad := by
  unfold State.governorFrame
  try dsimp only
  (repeat' split) <;> simp

end Sys2Proof.Machine
end

