-- ==== Sys2Proof/Laws/FrameGridManager.lean ====
section
/-! SUPPORT. What each operation of Machine/GridManager.lean leaves alone: every field of the State that it does not name
keeps its value. -/

namespace Sys2Proof.Machine

/-- What `State.settleBank` leaves alone. -/
@[simp] theorem State.settleBank_frame (s : State) (k : BankId) :
    (s.settleBank k).pending = s.pending ∧
    (s.settleBank k).us = s.us ∧
    (s.settleBank k).freeCount = s.freeCount ∧
    (s.settleBank k).ram = s.ram ∧
    (s.settleBank k).window = s.window ∧
    (s.settleBank k).settings = s.settings ∧
    (s.settleBank k).settled = s.settled ∧
    (s.settleBank k).exchange = s.exchange ∧
    (s.settleBank k).desk = s.desk ∧
    (s.settleBank k).faults = s.faults ∧
    (s.settleBank k).rows = s.rows ∧
    (s.settleBank k).drive = s.drive ∧
    (s.settleBank k).steer = s.steer ∧
    (s.settleBank k).load = s.load ∧
    (s.settleBank k).link = s.link ∧
    (s.settleBank k).scan = s.scan ∧
    (s.settleBank k).speed = s.speed ∧
    (s.settleBank k).supervision = s.supervision ∧
    (s.settleBank k).selfLoad = s.selfLoad ∧
    (s.settleBank k).trace = s.trace ∧
    (s.settleBank k).timers = s.timers ∧
    (s.settleBank k).published = s.published := by
  unfold State.settleBank
  try dsimp only
  (repeat' split) <;> simp

/-- What `State.tripBank` leaves alone. -/
@[simp] theorem State.tripBank_frame (s : State) (k : BankId) (c : BankTrip) :
    (s.tripBank k c).pending = s.pending ∧
    (s.tripBank k c).us = s.us ∧
    (s.tripBank k c).freeCount = s.freeCount ∧
    (s.tripBank k c).settings = s.settings ∧
    (s.tripBank k c).settled = s.settled ∧
    (s.tripBank k c).exchange = s.exchange ∧
    (s.tripBank k c).desk = s.desk ∧
    (s.tripBank k c).steer = s.steer ∧
    (s.tripBank k c).load = s.load ∧
    (s.tripBank k c).scan = s.scan ∧
    (s.tripBank k c).speed = s.speed ∧
    (s.tripBank k c).selfLoad = s.selfLoad ∧
    (s.tripBank k c).trace = s.trace := by
  unfold State.tripBank
  try dsimp only
  (repeat' split) <;> simp

/-- What `State.checkChopperTrip` leaves alone. -/
@[simp] theorem State.checkChopperTrip_frame (s : State) (k : BankId) :
    (s.checkChopperTrip k).pending = s.pending ∧
    (s.checkChopperTrip k).us = s.us ∧
    (s.checkChopperTrip k).freeCount = s.freeCount ∧
    (s.checkChopperTrip k).settings = s.settings ∧
    (s.checkChopperTrip k).settled = s.settled ∧
    (s.checkChopperTrip k).exchange = s.exchange ∧
    (s.checkChopperTrip k).desk = s.desk ∧
    (s.checkChopperTrip k).steer = s.steer ∧
    (s.checkChopperTrip k).load = s.load ∧
    (s.checkChopperTrip k).scan = s.scan ∧
    (s.checkChopperTrip k).speed = s.speed ∧
    (s.checkChopperTrip k).selfLoad = s.selfLoad ∧
    (s.checkChopperTrip k).trace = s.trace := by
  unfold State.checkChopperTrip
  try dsimp only
  (repeat' split) <;> simp

/-- What `State.returnBank` leaves alone. -/
@[simp] theorem State.returnBank_frame (s : State) (k : BankId) :
    (s.returnBank k).pending = s.pending ∧
    (s.returnBank k).us = s.us ∧
    (s.returnBank k).freeCount = s.freeCount ∧
    (s.returnBank k).window = s.window ∧
    (s.returnBank k).settings = s.settings ∧
    (s.returnBank k).settled = s.settled ∧
    (s.returnBank k).exchange = s.exchange ∧
    (s.returnBank k).desk = s.desk ∧
    (s.returnBank k).rows = s.rows ∧
    (s.returnBank k).drive = s.drive ∧
    (s.returnBank k).steer = s.steer ∧
    (s.returnBank k).load = s.load ∧
    (s.returnBank k).link = s.link ∧
    (s.returnBank k).scan = s.scan ∧
    (s.returnBank k).speed = s.speed ∧
    (s.returnBank k).supervision = s.supervision ∧
    (s.returnBank k).selfLoad = s.selfLoad ∧
    (s.returnBank k).trace = s.trace ∧
    (s.returnBank k).timers = s.timers ∧
    (s.returnBank k).published = s.published := by
  unfold State.returnBank
  try dsimp only
  (repeat' split) <;> simp

/-- What `State.handResetLockout` leaves alone. -/
@[simp] theorem State.handResetLockout_frame (s : State) (o : HeldOrder) :
    (s.handResetLockout o).pending = s.pending ∧
    (s.handResetLockout o).us = s.us ∧
    (s.handResetLockout o).freeCount = s.freeCount ∧
    (s.handResetLockout o).settings = s.settings ∧
    (s.handResetLockout o).settled = s.settled ∧
    (s.handResetLockout o).exchange = s.exchange ∧
    (s.handResetLockout o).desk = s.desk ∧
    (s.handResetLockout o).rows = s.rows ∧
    (s.handResetLockout o).drive = s.drive ∧
    (s.handResetLockout o).steer = s.steer ∧
    (s.handResetLockout o).load = s.load ∧
    (s.handResetLockout o).link = s.link ∧
    (s.handResetLockout o).scan = s.scan ∧
    (s.handResetLockout o).speed = s.speed ∧
    (s.handResetLockout o).supervision = s.supervision ∧
    (s.handResetLockout o).selfLoad = s.selfLoad ∧
    (s.handResetLockout o).trace = s.trace ∧
    (s.handResetLockout o).timers = s.timers ∧
    (s.handResetLockout o).published = s.published := by
  unfold State.handResetLockout
  try dsimp only
  (repeat' split) <;> simp

/-- What `State.computePower` leaves alone. -/
@[simp] theorem State.computePower_frame (s : State) :
    (s.computePower).pending = s.pending ∧
    (s.computePower).us = s.us ∧
    (s.computePower).freeCount = s.freeCount ∧
    (s.computePower).ram = s.ram ∧
    (s.computePower).window = s.window ∧
    (s.computePower).settings = s.settings ∧
    (s.computePower).settled = s.settled ∧
    (s.computePower).exchange = s.exchange ∧
    (s.computePower).desk = s.desk ∧
    (s.computePower).faults = s.faults ∧
    (s.computePower).rows = s.rows ∧
    (s.computePower).drive = s.drive ∧
    (s.computePower).steer = s.steer ∧
    (s.computePower).load = s.load ∧
    (s.computePower).link = s.link ∧
    (s.computePower).scan = s.scan ∧
    (s.computePower).speed = s.speed ∧
    (s.computePower).supervision = s.supervision ∧
    (s.computePower).selfLoad = s.selfLoad ∧
    (s.computePower).trace = s.trace ∧
    (s.computePower).timers = s.timers ∧
    (s.computePower).published = s.published := by
  unfold State.computePower
  try dsimp only
  simp [State.forBanks]

/-- What `State.readLink` leaves alone. -/
@[simp] theorem State.readLink_frame (s : State) :
    (s.readLink).pending = s.pending ∧
    (s.readLink).us = s.us ∧
    (s.readLink).freeCount = s.freeCount ∧
    (s.readLink).ram = s.ram ∧
    (s.readLink).window = s.window ∧
    (s.readLink).settings = s.settings ∧
    (s.readLink).settled = s.settled ∧
    (s.readLink).exchange = s.exchange ∧
    (s.readLink).desk = s.desk ∧
    (s.readLink).faults = s.faults ∧
    (s.readLink).rows = s.rows ∧
    (s.readLink).drive = s.drive ∧
    (s.readLink).steer = s.steer ∧
    (s.readLink).load = s.load ∧
    (s.readLink).link = s.link ∧
    (s.readLink).scan = s.scan ∧
    (s.readLink).speed = s.speed ∧
    (s.readLink).supervision = s.supervision ∧
    (s.readLink).selfLoad = s.selfLoad ∧
    (s.readLink).trace = s.trace ∧
    (s.readLink).timers = s.timers ∧
    (s.readLink).published = s.published := by
  unfold State.readLink
  try dsimp only
  (repeat' split) <;> simp

/-- What `State.persistOvervoltage` leaves alone. -/
@[simp] theorem State.persistOvervoltage_frame (s : State) :
    (s.persistOvervoltage).pending = s.pending ∧
    (s.persistOvervoltage).us = s.us ∧
    (s.persistOvervoltage).freeCount = s.freeCount ∧
    (s.persistOvervoltage).settings = s.settings ∧
    (s.persistOvervoltage).settled = s.settled ∧
    (s.persistOvervoltage).exchange = s.exchange ∧
    (s.persistOvervoltage).steer = s.steer ∧
    (s.persistOvervoltage).load = s.load ∧
    (s.persistOvervoltage).scan = s.scan ∧
    (s.persistOvervoltage).speed = s.speed ∧
    (s.persistOvervoltage).trace = s.trace := by
  unfold State.persistOvervoltage
  try dsimp only
  (repeat' split) <;> simp

/-- What `State.recheckOvervoltage` leaves alone. -/
@[simp] theorem State.recheckOvervoltage_frame (s : State) :
    (s.recheckOvervoltage).pending = s.pending ∧
    (s.recheckOvervoltage).us = s.us ∧
    (s.recheckOvervoltage).freeCount = s.freeCount ∧
    (s.recheckOvervoltage).ram = s.ram ∧
    (s.recheckOvervoltage).window = s.window ∧
    (s.recheckOvervoltage).settings = s.settings ∧
    (s.recheckOvervoltage).settled = s.settled ∧
    (s.recheckOvervoltage).exchange = s.exchange ∧
    (s.recheckOvervoltage).desk = s.desk ∧
    (s.recheckOvervoltage).faults = s.faults ∧
    (s.recheckOvervoltage).drive = s.drive ∧
    (s.recheckOvervoltage).steer = s.steer ∧
    (s.recheckOvervoltage).load = s.load ∧
    (s.recheckOvervoltage).link = s.link ∧
    (s.recheckOvervoltage).scan = s.scan ∧
    (s.recheckOvervoltage).speed = s.speed ∧
    (s.recheckOvervoltage).supervision = s.supervision ∧
    (s.recheckOvervoltage).selfLoad = s.selfLoad ∧
    (s.recheckOvervoltage).trace = s.trace ∧
    (s.recheckOvervoltage).timers = s.timers ∧
    (s.recheckOvervoltage).published = s.published := by
  unfold State.recheckOvervoltage
  try dsimp only
  (repeat' split) <;> simp

/-- What `State.settleOvervoltageRow` leaves alone. -/
@[simp] theorem State.settleOvervoltageRow_frame (s : State) :
    (s.settleOvervoltageRow).pending = s.pending ∧
    (s.settleOvervoltageRow).us = s.us ∧
    (s.settleOvervoltageRow).freeCount = s.freeCount ∧
    (s.settleOvervoltageRow).ram = s.ram ∧
    (s.settleOvervoltageRow).window = s.window ∧
    (s.settleOvervoltageRow).settings = s.settings ∧
    (s.settleOvervoltageRow).settled = s.settled ∧
    (s.settleOvervoltageRow).exchange = s.exchange ∧
    (s.settleOvervoltageRow).desk = s.desk ∧
    (s.settleOvervoltageRow).faults = s.faults ∧
    (s.settleOvervoltageRow).drive = s.drive ∧
    (s.settleOvervoltageRow).steer = s.steer ∧
    (s.settleOvervoltageRow).load = s.load ∧
    (s.settleOvervoltageRow).link = s.link ∧
    (s.settleOvervoltageRow).scan = s.scan ∧
    (s.settleOvervoltageRow).speed = s.speed ∧
    (s.settleOvervoltageRow).supervision = s.supervision ∧
    (s.settleOvervoltageRow).selfLoad = s.selfLoad ∧
    (s.settleOvervoltageRow).trace = s.trace ∧
    (s.settleOvervoltageRow).timers = s.timers ∧
    (s.settleOvervoltageRow).published = s.published := by
  unfold State.settleOvervoltageRow
  try dsimp only
  (repeat' split) <;> simp

/-- What `State.judgeOvervoltage` leaves alone. -/
@[simp] theorem State.judgeOvervoltage_frame (s : State) :
    (s.judgeOvervoltage).pending = s.pending ∧
    (s.judgeOvervoltage).us = s.us ∧
    (s.judgeOvervoltage).freeCount = s.freeCount ∧
    (s.judgeOvervoltage).settings = s.settings ∧
    (s.judgeOvervoltage).settled = s.settled ∧
    (s.judgeOvervoltage).exchange = s.exchange ∧
    (s.judgeOvervoltage).steer = s.steer ∧
    (s.judgeOvervoltage).load = s.load ∧
    (s.judgeOvervoltage).scan = s.scan ∧
    (s.judgeOvervoltage).speed = s.speed ∧
    (s.judgeOvervoltage).trace = s.trace := by
  unfold State.judgeOvervoltage
  try dsimp only
  (repeat' split) <;> simp

/-- What `State.judgeUndervoltage` leaves alone. -/
@[simp] theorem State.judgeUndervoltage_frame (s : State) :
    (s.judgeUndervoltage).pending = s.pending ∧
    (s.judgeUndervoltage).us = s.us ∧
    (s.judgeUndervoltage).freeCount = s.freeCount ∧
    (s.judgeUndervoltage).settings = s.settings ∧
    (s.judgeUndervoltage).settled = s.settled ∧
    (s.judgeUndervoltage).exchange = s.exchange ∧
    (s.judgeUndervoltage).desk = s.desk ∧
    (s.judgeUndervoltage).grid = s.grid ∧
    (s.judgeUndervoltage).steer = s.steer ∧
    (s.judgeUndervoltage).load = s.load ∧
    (s.judgeUndervoltage).scan = s.scan ∧
    (s.judgeUndervoltage).speed = s.speed ∧
    (s.judgeUndervoltage).selfLoad = s.selfLoad ∧
    (s.judgeUndervoltage).trace = s.trace := by
  unfold State.judgeUndervoltage
  try dsimp only
  (repeat' split) <;> simp

/-- What `State.judgeLinkVoltage` leaves alone. -/
@[simp] theorem State.judgeLinkVoltage_frame (s : State) :
    (s.judgeLinkVoltage).pending = s.pending ∧
    (s.judgeLinkVoltage).us = s.us ∧
    (s.judgeLinkVoltage).freeCount = s.freeCount ∧
    (s.judgeLinkVoltage).settings = s.settings ∧
    (s.judgeLinkVoltage).settled = s.settled ∧
    (s.judgeLinkVoltage).exchange = s.exchange ∧
    (s.judgeLinkVoltage).steer = s.steer ∧
    (s.judgeLinkVoltage).load = s.load ∧
    (s.judgeLinkVoltage).scan = s.scan ∧
    (s.judgeLinkVoltage).speed = s.speed ∧
    (s.judgeLinkVoltage).trace = s.trace := by
  unfold State.judgeLinkVoltage
  try dsimp only
  (repeat' split) <;> simp

/-- What `State.writeGridCapacity` leaves alone. -/
@[simp] theorem State.writeGridCapacity_frame (s : State) :
    (s.writeGridCapacity).pending = s.pending ∧
    (s.writeGridCapacity).us = s.us ∧
    (s.writeGridCapacity).freeCount = s.freeCount ∧
    (s.writeGridCapacity).ram = s.ram ∧
    (s.writeGridCapacity).window = s.window ∧
    (s.writeGridCapacity).settings = s.settings ∧
    (s.writeGridCapacity).settled = s.settled ∧
    (s.writeGridCapacity).exchange = s.exchange ∧
    (s.writeGridCapacity).desk = s.desk ∧
    (s.writeGridCapacity).faults = s.faults ∧
    (s.writeGridCapacity).drive = s.drive ∧
    (s.writeGridCapacity).grid = s.grid ∧
    (s.writeGridCapacity).steer = s.steer ∧
    (s.writeGridCapacity).load = s.load ∧
    (s.writeGridCapacity).link = s.link ∧
    (s.writeGridCapacity).scan = s.scan ∧
    (s.writeGridCapacity).speed = s.speed ∧
    (s.writeGridCapacity).supervision = s.supervision ∧
    (s.writeGridCapacity).selfLoad = s.selfLoad ∧
    (s.writeGridCapacity).trace = s.trace ∧
    (s.writeGridCapacity).timers = s.timers ∧
    (s.writeGridCapacity).published = s.published := by
  unfold State.writeGridCapacity
  try dsimp only
  simp

/-- What `State.regulate` leaves alone. -/
@[simp] theorem State.regulate_frame (s : State) (testing : Bool) :
    (s.regulate testing).pending = s.pending ∧
    (s.regulate testing).us = s.us ∧
    (s.regulate testing).freeCount = s.freeCount ∧
    (s.regulate testing).ram = s.ram ∧
    (s.regulate testing).window = s.window ∧
    (s.regulate testing).settings = s.settings ∧
    (s.regulate testing).settled = s.settled ∧
    (s.regulate testing).exchange = s.exchange ∧
    (s.regulate testing).desk = s.desk ∧
    (s.regulate testing).faults = s.faults ∧
    (s.regulate testing).rows = s.rows ∧
    (s.regulate testing).drive = s.drive ∧
    (s.regulate testing).steer = s.steer ∧
    (s.regulate testing).load = s.load ∧
    (s.regulate testing).link = s.link ∧
    (s.regulate testing).scan = s.scan ∧
    (s.regulate testing).speed = s.speed ∧
    (s.regulate testing).supervision = s.supervision ∧
    (s.regulate testing).selfLoad = s.selfLoad ∧
    (s.regulate testing).trace = s.trace ∧
    (s.regulate testing).timers = s.timers ∧
    (s.regulate testing).published = s.published := by
  unfold State.regulate
  try dsimp only
  (repeat' split) <;> simp

/-- What `State.setDuties` leaves alone. -/
@[simp] theorem State.setDuties_frame (s : State) (a b : Int) :
    (s.setDuties a b).pending = s.pending ∧
    (s.setDuties a b).us = s.us ∧
    (s.setDuties a b).freeCount = s.freeCount ∧
    (s.setDuties a b).ram = s.ram ∧
    (s.setDuties a b).window = s.window ∧
    (s.setDuties a b).settings = s.settings ∧
    (s.setDuties a b).settled = s.settled ∧
    (s.setDuties a b).exchange = s.exchange ∧
    (s.setDuties a b).desk = s.desk ∧
    (s.setDuties a b).faults = s.faults ∧
    (s.setDuties a b).rows = s.rows ∧
    (s.setDuties a b).drive = s.drive ∧
    (s.setDuties a b).steer = s.steer ∧
    (s.setDuties a b).load = s.load ∧
    (s.setDuties a b).link = s.link ∧
    (s.setDuties a b).scan = s.scan ∧
    (s.setDuties a b).speed = s.speed ∧
    (s.setDuties a b).supervision = s.supervision ∧
    (s.setDuties a b).selfLoad = s.selfLoad ∧
    (s.setDuties a b).trace = s.trace ∧
    (s.setDuties a b).timers = s.timers ∧
    (s.setDuties a b).published = s.published := by
  unfold State.setDuties
  try dsimp only
  simp

/-- What `State.generateDuties` leaves alone. -/
@[simp] theorem State.generateDuties_frame (s : State) :
    (s.generateDuties).pending = s.pending ∧
    (s.generateDuties).us = s.us ∧
    (s.generateDuties).freeCount = s.freeCount ∧
    (s.generateDuties).settings = s.settings ∧
    (s.generateDuties).settled = s.settled ∧
    (s.generateDuties).exchange = s.exchange ∧
    (s.generateDuties).faults = s.faults ∧
    (s.generateDuties).steer = s.steer ∧
    (s.generateDuties).load = s.load ∧
    (s.generateDuties).scan = s.scan ∧
    (s.generateDuties).speed = s.speed ∧
    (s.generateDuties).trace = s.trace := by
  unfold State.generateDuties
  try dsimp only
  (repeat' split) <;> simp

/-- What `State.forceDuties` leaves alone. -/
@[simp] theorem State.forceDuties_frame (s : State) :
    (s.forceDuties).pending = s.pending ∧
    (s.forceDuties).us = s.us ∧
    (s.forceDuties).freeCount = s.freeCount ∧
    (s.forceDuties).ram = s.ram ∧
    (s.forceDuties).window = s.window ∧
    (s.forceDuties).settings = s.settings ∧
    (s.forceDuties).settled = s.settled ∧
    (s.forceDuties).exchange = s.exchange ∧
    (s.forceDuties).desk = s.desk ∧
    (s.forceDuties).faults = s.faults ∧
    (s.forceDuties).rows = s.rows ∧
    (s.forceDuties).drive = s.drive ∧
    (s.forceDuties).steer = s.steer ∧
    (s.forceDuties).load = s.load ∧
    (s.forceDuties).link = s.link ∧
    (s.forceDuties).scan = s.scan ∧
    (s.forceDuties).speed = s.speed ∧
    (s.forceDuties).supervision = s.supervision ∧
    (s.forceDuties).selfLoad = s.selfLoad ∧
    (s.forceDuties).trace = s.trace ∧
    (s.forceDuties).timers = s.timers ∧
    (s.forceDuties).published = s.published := by
  unfold State.forceDuties
  try dsimp only
  (repeat' split) <;> simp

/-- What `State.assignDuties` leaves alone. -/
@[simp] theorem State.assignDuties_frame (s : State) (testing : Bool) :
    (s.assignDuties testing).pending = s.pending ∧
    (s.assignDuties testing).us = s.us ∧
    (s.assignDuties testing).freeCount = s.freeCount ∧
    (s.assignDuties testing).settings = s.settings ∧
    (s.assignDuties testing).settled = s.settled ∧
    (s.assignDuties testing).exchange = s.exchange ∧
    (s.assignDuties testing).faults = s.faults ∧
    (s.assignDuties testing).steer = s.steer ∧
    (s.assignDuties testing).load = s.load ∧
    (s.assignDuties testing).scan = s.scan ∧
    (s.assignDuties testing).speed = s.speed ∧
    (s.assignDuties testing).trace = s.trace := by
  unfold State.assignDuties
  try dsimp only
  (repeat' split) <;> simp

/-- What `State.demandBlower` leaves alone. -/
@[simp] theorem State.demandBlower_frame (s : State) (k : BankId) :
    (s.demandBlower k).pending = s.pending ∧
    (s.demandBlower k).us = s.us ∧
    (s.demandBlower k).freeCount = s.freeCount ∧
    (s.demandBlower k).ram = s.ram ∧
    (s.demandBlower k).window = s.window ∧
    (s.demandBlower k).settings = s.settings ∧
    (s.demandBlower k).settled = s.settled ∧
    (s.demandBlower k).exchange = s.exchange ∧
    (s.demandBlower k).desk = s.desk ∧
    (s.demandBlower k).faults = s.faults ∧
    (s.demandBlower k).rows = s.rows ∧
    (s.demandBlower k).drive = s.drive ∧
    (s.demandBlower k).steer = s.steer ∧
    (s.demandBlower k).load = s.load ∧
    (s.demandBlower k).link = s.link ∧
    (s.demandBlower k).scan = s.scan ∧
    (s.demandBlower k).speed = s.speed ∧
    (s.demandBlower k).supervision = s.supervision ∧
    (s.demandBlower k).selfLoad = s.selfLoad ∧
    (s.demandBlower k).trace = s.trace ∧
    (s.demandBlower k).timers = s.timers ∧
    (s.demandBlower k).published = s.published := by
  unfold State.demandBlower
  try dsimp only
  (repeat' split) <;> simp

/-- What `State.judgeBlower` leaves alone. -/
@[simp] theorem State.judgeBlower_frame (s : State) (k : BankId) :
    (s.judgeBlower k).pending = s.pending ∧
    (s.judgeBlower k).us = s.us ∧
    (s.judgeBlower k).freeCount = s.freeCount ∧
    (s.judgeBlower k).settings = s.settings ∧
    (s.judgeBlower k).settled = s.settled ∧
    (s.judgeBlower k).exchange = s.exchange ∧
    (s.judgeBlower k).desk = s.desk ∧
    (s.judgeBlower k).grid = s.grid ∧
    (s.judgeBlower k).steer = s.steer ∧
    (s.judgeBlower k).load = s.load ∧
    (s.judgeBlower k).scan = s.scan ∧
    (s.judgeBlower k).speed = s.speed ∧
    (s.judgeBlower k).selfLoad = s.selfLoad ∧
    (s.judgeBlower k).trace = s.trace := by
  unfold State.judgeBlower
  try dsimp only
  (repeat' split) <;> simp

/-- What `State.finishLinkFrame` leaves alone. -/
@[simp] theorem State.finishLinkFrame_frame (s : State) :
    (s.finishLinkFrame).pending = s.pending ∧
    (s.finishLinkFrame).us = s.us ∧
    (s.finishLinkFrame).freeCount = s.freeCount ∧
    (s.finishLinkFrame).ram = s.ram ∧
    (s.finishLinkFrame).window = s.window ∧
    (s.finishLinkFrame).settings = s.settings ∧
    (s.finishLinkFrame).settled = s.settled ∧
    (s.finishLinkFrame).exchange = s.exchange ∧
    (s.finishLinkFrame).desk = s.desk ∧
    (s.finishLinkFrame).faults = s.faults ∧
    (s.finishLinkFrame).rows = s.rows ∧
    (s.finishLinkFrame).drive = s.drive ∧
    (s.finishLinkFrame).steer = s.steer ∧
    (s.finishLinkFrame).load = s.load ∧
    (s.finishLinkFrame).scan = s.scan ∧
    (s.finishLinkFrame).speed = s.speed ∧
    (s.finishLinkFrame).supervision = s.supervision ∧
    (s.finishLinkFrame).selfLoad = s.selfLoad ∧
    (s.finishLinkFrame).trace = s.trace ∧
    (s.finishLinkFrame).timers = s.timers := by
  unfold State.finishLinkFrame
  try dsimp only
  simp

/-- What `State.dcLinkFrame` leaves alone. -/
@[simp] theorem State.dcLinkFrame_frame (s : State) :
    (s.dcLinkFrame).pending = s.pending ∧
    (s.dcLinkFrame).us = s.us ∧
    (s.dcLinkFrame).freeCount = s.freeCount ∧
    (s.dcLinkFrame).settings = s.settings ∧
    (s.dcLinkFrame).settled = s.settled ∧
    (s.dcLinkFrame).exchange = s.exchange ∧
    (s.dcLinkFrame).steer = s.steer ∧
    (s.dcLinkFrame).load = s.load ∧
    (s.dcLinkFrame).scan = s.scan ∧
    (s.dcLinkFrame).speed = s.speed ∧
    (s.dcLinkFrame).trace = s.trace := by
  unfold State.dcLinkFrame
  try dsimp only
  (repeat' split) <;> simp [State.forBanks]

/-- What `State.formMeans` leaves alone. -/
@[simp] theorem State.formMeans_frame (s : State) (m : Means) (x : GridSums) :
    (s.formMeans m x).pending = s.pending ∧
    (s.formMeans m x).us = s.us ∧
    (s.formMeans m x).freeCount = s.freeCount ∧
    (s.formMeans m x).ram = s.ram ∧
    (s.formMeans m x).window = s.window ∧
    (s.formMeans m x).settings = s.settings ∧
    (s.formMeans m x).settled = s.settled ∧
    (s.formMeans m x).exchange = s.exchange ∧
    (s.formMeans m x).desk = s.desk ∧
    (s.formMeans m x).faults = s.faults ∧
    (s.formMeans m x).rows = s.rows ∧
    (s.formMeans m x).drive = s.drive ∧
    (s.formMeans m x).steer = s.steer ∧
    (s.formMeans m x).load = s.load ∧
    (s.formMeans m x).link = s.link ∧
    (s.formMeans m x).scan = s.scan ∧
    (s.formMeans m x).speed = s.speed ∧
    (s.formMeans m x).supervision = s.supervision ∧
    (s.formMeans m x).selfLoad = s.selfLoad ∧
    (s.formMeans m x).trace = s.trace ∧
    (s.formMeans m x).timers = s.timers ∧
    (s.formMeans m x).published = s.published := by
  unfold State.formMeans
  try dsimp only
  simp [State.forBanks]

/-- What `State.updateTheta` leaves alone. -/
@[simp] theorem State.updateTheta_frame (s : State) (k : BankId) :
    (s.updateTheta k).pending = s.pending ∧
    (s.updateTheta k).us = s.us ∧
    (s.updateTheta k).freeCount = s.freeCount ∧
    (s.updateTheta k).ram = s.ram ∧
    (s.updateTheta k).window = s.window ∧
    (s.updateTheta k).settings = s.settings ∧
    (s.updateTheta k).settled = s.settled ∧
    (s.updateTheta k).exchange = s.exchange ∧
    (s.updateTheta k).desk = s.desk ∧
    (s.updateTheta k).faults = s.faults ∧
    (s.updateTheta k).rows = s.rows ∧
    (s.updateTheta k).drive = s.drive ∧
    (s.updateTheta k).steer = s.steer ∧
    (s.updateTheta k).load = s.load ∧
    (s.updateTheta k).link = s.link ∧
    (s.updateTheta k).scan = s.scan ∧
    (s.updateTheta k).speed = s.speed ∧
    (s.updateTheta k).supervision = s.supervision ∧
    (s.updateTheta k).selfLoad = s.selfLoad ∧
    (s.updateTheta k).trace = s.trace ∧
    (s.updateTheta k).timers = s.timers ∧
    (s.updateTheta k).published = s.published := by
  unfold State.updateTheta
  try dsimp only
  (repeat' split) <;> simp

/-- What `State.judgeAir` leaves alone. -/
@[simp] theorem State.judgeAir_frame (s : State) (k : BankId) :
    (s.judgeAir k).pending = s.pending ∧
    (s.judgeAir k).us = s.us ∧
    (s.judgeAir k).freeCount = s.freeCount ∧
    (s.judgeAir k).settings = s.settings ∧
    (s.judgeAir k).settled = s.settled ∧
    (s.judgeAir k).exchange = s.exchange ∧
    (s.judgeAir k).desk = s.desk ∧
    (s.judgeAir k).steer = s.steer ∧
    (s.judgeAir k).load = s.load ∧
    (s.judgeAir k).scan = s.scan ∧
    (s.judgeAir k).speed = s.speed ∧
    (s.judgeAir k).selfLoad = s.selfLoad ∧
    (s.judgeAir k).trace = s.trace := by
  unfold State.judgeAir
  try dsimp only
  (repeat' split) <;> simp

/-- What `State.checkCircuit` leaves alone. -/
@[simp] theorem State.checkCircuit_frame (s : State) (m : Means) (x : GridSums) (k : BankId) :
    (s.checkCircuit m x k).pending = s.pending ∧
    (s.checkCircuit m x k).us = s.us ∧
    (s.checkCircuit m x k).freeCount = s.freeCount ∧
    (s.checkCircuit m x k).settings = s.settings ∧
    (s.checkCircuit m x k).settled = s.settled ∧
    (s.checkCircuit m x k).exchange = s.exchange ∧
    (s.checkCircuit m x k).desk = s.desk ∧
    (s.checkCircuit m x k).steer = s.steer ∧
    (s.checkCircuit m x k).load = s.load ∧
    (s.checkCircuit m x k).scan = s.scan ∧
    (s.checkCircuit m x k).speed = s.speed ∧
    (s.checkCircuit m x k).selfLoad = s.selfLoad ∧
    (s.checkCircuit m x k).trace = s.trace := by
  unfold State.checkCircuit
  try dsimp only
  (repeat' split) <;> simp

/-- What `State.pruneBank` leaves alone. -/
@[simp] theorem State.pruneBank_frame (s : State) (k : BankId) :
    (s.pruneBank k).pending = s.pending ∧
    (s.pruneBank k).us = s.us ∧
    (s.pruneBank k).freeCount = s.freeCount ∧
    (s.pruneBank k).ram = s.ram ∧
    (s.pruneBank k).window = s.window ∧
    (s.pruneBank k).settings = s.settings ∧
    (s.pruneBank k).settled = s.settled ∧
    (s.pruneBank k).exchange = s.exchange ∧
    (s.pruneBank k).desk = s.desk ∧
    (s.pruneBank k).faults = s.faults ∧
    (s.pruneBank k).rows = s.rows ∧
    (s.pruneBank k).drive = s.drive ∧
    (s.pruneBank k).steer = s.steer ∧
    (s.pruneBank k).load = s.load ∧
    (s.pruneBank k).link = s.link ∧
    (s.pruneBank k).scan = s.scan ∧
    (s.pruneBank k).speed = s.speed ∧
    (s.pruneBank k).supervision = s.supervision ∧
    (s.pruneBank k).selfLoad = s.selfLoad ∧
    (s.pruneBank k).trace = s.trace ∧
    (s.pruneBank k).timers = s.timers ∧
    (s.pruneBank k).published = s.published := by
  unfold State.pruneBank
  try dsimp only
  (repeat' split) <;> simp

/-- What `State.checkThermalTrip` leaves alone. -/
@[simp] theorem State.checkThermalTrip_frame (s : State) (circuit : Bool) (k : BankId) :
    (s.checkThermalTrip circuit k).pending = s.pending ∧
    (s.checkThermalTrip circuit k).us = s.us ∧
    (s.checkThermalTrip circuit k).freeCount = s.freeCount ∧
    (s.checkThermalTrip circuit k).settings = s.settings ∧
    (s.checkThermalTrip circuit k).settled = s.settled ∧
    (s.checkThermalTrip circuit k).exchange = s.exchange ∧
    (s.checkThermalTrip circuit k).desk = s.desk ∧
    (s.checkThermalTrip circuit k).steer = s.steer ∧
    (s.checkThermalTrip circuit k).load = s.load ∧
    (s.checkThermalTrip circuit k).scan = s.scan ∧
    (s.checkThermalTrip circuit k).speed = s.speed ∧
    (s.checkThermalTrip circuit k).selfLoad = s.selfLoad ∧
    (s.checkThermalTrip circuit k).trace = s.trace := by
  unfold State.checkThermalTrip
  try dsimp only
  (repeat' split) <;> simp

/-- What `State.writeDescent` leaves alone. -/
@[simp] theorem State.writeDescent_frame (s : State) :
    (s.writeDescent).pending = s.pending ∧
    (s.writeDescent).us = s.us ∧
    (s.writeDescent).freeCount = s.freeCount ∧
    (s.writeDescent).ram = s.ram ∧
    (s.writeDescent).window = s.window ∧
    (s.writeDescent).settings = s.settings ∧
    (s.writeDescent).settled = s.settled ∧
    (s.writeDescent).exchange = s.exchange ∧
    (s.writeDescent).desk = s.desk ∧
    (s.writeDescent).faults = s.faults ∧
    (s.writeDescent).drive = s.drive ∧
    (s.writeDescent).steer = s.steer ∧
    (s.writeDescent).load = s.load ∧
    (s.writeDescent).link = s.link ∧
    (s.writeDescent).scan = s.scan ∧
    (s.writeDescent).speed = s.speed ∧
    (s.writeDescent).supervision = s.supervision ∧
    (s.writeDescent).selfLoad = s.selfLoad ∧
    (s.writeDescent).trace = s.trace ∧
    (s.writeDescent).timers = s.timers ∧
    (s.writeDescent).published = s.published := by
  unfold State.writeDescent
  try dsimp only
  (repeat' split) <;> simp

/-- What `State.reportBanksAnew` leaves alone. -/
@[simp] theorem State.reportBanksAnew_frame (s : State) :
    (s.reportBanksAnew).pending = s.pending ∧
    (s.reportBanksAnew).us = s.us ∧
    (s.reportBanksAnew).freeCount = s.freeCount ∧
    (s.reportBanksAnew).settings = s.settings ∧
    (s.reportBanksAnew).settled = s.settled ∧
    (s.reportBanksAnew).exchange = s.exchange ∧
    (s.reportBanksAnew).desk = s.desk ∧
    (s.reportBanksAnew).steer = s.steer ∧
    (s.reportBanksAnew).load = s.load ∧
    (s.reportBanksAnew).scan = s.scan ∧
    (s.reportBanksAnew).speed = s.speed ∧
    (s.reportBanksAnew).selfLoad = s.selfLoad ∧
    (s.reportBanksAnew).trace = s.trace := by
  unfold State.reportBanksAnew
  try dsimp only
  (repeat' split) <;> simp [State.forBanks]

/-- What `State.thermalFrame` leaves alone. -/
@[simp] theorem State.thermalFrame_frame (s : State) :
    (s.thermalFrame).pending = s.pending ∧
    (s.thermalFrame).us = s.us ∧
    (s.thermalFrame).settings = s.settings ∧
    (s.thermalFrame).settled = s.settled ∧
    (s.thermalFrame).exchange = s.exchange ∧
    (s.thermalFrame).desk = s.desk ∧
    (s.thermalFrame).steer = s.steer ∧
    (s.thermalFrame).load = s.load ∧
    (s.thermalFrame).scan = s.scan ∧
    (s.thermalFrame).speed = s.speed ∧
    (s.thermalFrame).selfLoad = s.selfLoad ∧
    (s.thermalFrame).trace = s.trace := by
  unfold State.thermalFrame
  try dsimp only
  (repeat' split) <;> simp [State.forBanks]

/-- What `State.tellGrid` leaves alone. -/
@[simp] theorem State.tellGrid_frame (s : State) (c : FaultCode) :
    (s.tellGrid c).pending = s.pending ∧
    (s.tellGrid c).us = s.us ∧
    (s.tellGrid c).freeCount = s.freeCount ∧
    (s.tellGrid c).ram = s.ram ∧
    (s.tellGrid c).window = s.window ∧
    (s.tellGrid c).settings = s.settings ∧
    (s.tellGrid c).settled = s.settled ∧
    (s.tellGrid c).exchange = s.exchange ∧
    (s.tellGrid c).desk = s.desk ∧
    (s.tellGrid c).faults = s.faults ∧
    (s.tellGrid c).drive = s.drive ∧
    (s.tellGrid c).steer = s.steer ∧
    (s.tellGrid c).load = s.load ∧
    (s.tellGrid c).link = s.link ∧
    (s.tellGrid c).scan = s.scan ∧
    (s.tellGrid c).speed = s.speed ∧
    (s.tellGrid c).supervision = s.supervision ∧
    (s.tellGrid c).selfLoad = s.selfLoad ∧
    (s.tellGrid c).trace = s.trace ∧
    (s.tellGrid c).timers = s.timers ∧
    (s.tellGrid c).published = s.published := by
  unfold State.tellGrid
  try dsimp only
  (repeat' split) <;> simp

/-- What `State.takeChopperReply` leaves alone. -/
@[simp] theorem State.takeChopperReply_frame (s : State) (r : ChopperReply) :
    (s.takeChopperReply r).pending = s.pending ∧
    (s.takeChopperReply r).us = s.us ∧
    (s.takeChopperReply r).freeCount = s.freeCount ∧
    (s.takeChopperReply r).ram = s.ram ∧
    (s.takeChopperReply r).window = s.window ∧
    (s.takeChopperReply r).settings = s.settings ∧
    (s.takeChopperReply r).settled = s.settled ∧
    (s.takeChopperReply r).exchange = s.exchange ∧
    (s.takeChopperReply r).desk = s.desk ∧
    (s.takeChopperReply r).faults = s.faults ∧
    (s.takeChopperReply r).rows = s.rows ∧
    (s.takeChopperReply r).drive = s.drive ∧
    (s.takeChopperReply r).steer = s.steer ∧
    (s.takeChopperReply r).load = s.load ∧
    (s.takeChopperReply r).link = s.link ∧
    (s.takeChopperReply r).scan = s.scan ∧
    (s.takeChopperReply r).speed = s.speed ∧
    (s.takeChopperReply r).supervision = s.supervision ∧
    (s.takeChopperReply r).selfLoad = s.selfLoad ∧
    (s.takeChopperReply r).trace = s.trace ∧
    (s.takeChopperReply r).timers = s.timers ∧
    (s.takeChopperReply r).published = s.published := by
  unfold State.takeChopperReply
  try dsimp only
  simp

end Sys2Proof.Machine
end

