-- ==== Sys2Proof/Laws/FrameWheelLink.lean ====
section
/-! SUPPORT. What each operation of Machine/WheelLink.lean leaves alone: every field of the State that it does not name
keeps its value. -/

namespace Sys2Proof.Machine

/-- What `State.publishLink` leaves alone. -/
@[simp] theorem State.publishLink_frame (s : State) :
    (s.publishLink).pending = s.pending ∧
    (s.publishLink).us = s.us ∧
    (s.publishLink).freeCount = s.freeCount ∧
    (s.publishLink).ram = s.ram ∧
    (s.publishLink).window = s.window ∧
    (s.publishLink).settings = s.settings ∧
    (s.publishLink).settled = s.settled ∧
    (s.publishLink).exchange = s.exchange ∧
    (s.publishLink).desk = s.desk ∧
    (s.publishLink).faults = s.faults ∧
    (s.publishLink).rows = s.rows ∧
    (s.publishLink).drive = s.drive ∧
    (s.publishLink).grid = s.grid ∧
    (s.publishLink).steer = s.steer ∧
    (s.publishLink).load = s.load ∧
    (s.publishLink).link = s.link ∧
    (s.publishLink).scan = s.scan ∧
    (s.publishLink).speed = s.speed ∧
    (s.publishLink).supervision = s.supervision ∧
    (s.publishLink).selfLoad = s.selfLoad ∧
    (s.publishLink).trace = s.trace ∧
    (s.publishLink).timers = s.timers := by
  unfold State.publishLink
  try dsimp only
  simp

/-- What `State.abandonExchange` leaves alone. -/
@[simp] theorem State.abandonExchange_frame (s : State) :
    (s.abandonExchange).pending = s.pending ∧
    (s.abandonExchange).us = s.us ∧
    (s.abandonExchange).freeCount = s.freeCount ∧
    (s.abandonExchange).ram = s.ram ∧
    (s.abandonExchange).window = s.window ∧
    (s.abandonExchange).settings = s.settings ∧
    (s.abandonExchange).settled = s.settled ∧
    (s.abandonExchange).exchange = s.exchange ∧
    (s.abandonExchange).desk = s.desk ∧
    (s.abandonExchange).faults = s.faults ∧
    (s.abandonExchange).rows = s.rows ∧
    (s.abandonExchange).drive = s.drive ∧
    (s.abandonExchange).grid = s.grid ∧
    (s.abandonExchange).steer = s.steer ∧
    (s.abandonExchange).load = s.load ∧
    (s.abandonExchange).scan = s.scan ∧
    (s.abandonExchange).speed = s.speed ∧
    (s.abandonExchange).supervision = s.supervision ∧
    (s.abandonExchange).selfLoad = s.selfLoad ∧
    (s.abandonExchange).trace = s.trace ∧
    (s.abandonExchange).published = s.published := by
  unfold State.abandonExchange
  try dsimp only
  simp

/-- What `State.beginExchange` leaves alone. -/
@[simp] theorem State.beginExchange_frame (s : State) (n : StationId) :
    (s.beginExchange n).pending = s.pending ∧
    (s.beginExchange n).us = s.us ∧
    (s.beginExchange n).freeCount = s.freeCount ∧
    (s.beginExchange n).ram = s.ram ∧
    (s.beginExchange n).window = s.window ∧
    (s.beginExchange n).settings = s.settings ∧
    (s.beginExchange n).settled = s.settled ∧
    (s.beginExchange n).exchange = s.exchange ∧
    (s.beginExchange n).desk = s.desk ∧
    (s.beginExchange n).faults = s.faults ∧
    (s.beginExchange n).rows = s.rows ∧
    (s.beginExchange n).drive = s.drive ∧
    (s.beginExchange n).grid = s.grid ∧
    (s.beginExchange n).steer = s.steer ∧
    (s.beginExchange n).load = s.load ∧
    (s.beginExchange n).scan = s.scan ∧
    (s.beginExchange n).speed = s.speed ∧
    (s.beginExchange n).supervision = s.supervision ∧
    (s.beginExchange n).selfLoad = s.selfLoad ∧
    (s.beginExchange n).trace = s.trace ∧
    (s.beginExchange n).timers = s.timers ∧
    (s.beginExchange n).published = s.published := by
  unfold State.beginExchange
  try dsimp only
  simp

/-- What `State.startExchange` leaves alone. -/
@[simp] theorem State.startExchange_frame (s : State) :
    (s.startExchange).pending = s.pending ∧
    (s.startExchange).us = s.us ∧
    (s.startExchange).freeCount = s.freeCount ∧
    (s.startExchange).ram = s.ram ∧
    (s.startExchange).window = s.window ∧
    (s.startExchange).settings = s.settings ∧
    (s.startExchange).settled = s.settled ∧
    (s.startExchange).exchange = s.exchange ∧
    (s.startExchange).desk = s.desk ∧
    (s.startExchange).faults = s.faults ∧
    (s.startExchange).rows = s.rows ∧
    (s.startExchange).drive = s.drive ∧
    (s.startExchange).grid = s.grid ∧
    (s.startExchange).steer = s.steer ∧
    (s.startExchange).load = s.load ∧
    (s.startExchange).scan = s.scan ∧
    (s.startExchange).speed = s.speed ∧
    (s.startExchange).supervision = s.supervision ∧
    (s.startExchange).selfLoad = s.selfLoad ∧
    (s.startExchange).trace = s.trace ∧
    (s.startExchange).timers = s.timers ∧
    (s.startExchange).published = s.published := by
  unfold State.startExchange
  try dsimp only
  (repeat' split) <;> simp

/-- What `State.sendNext` leaves alone. -/
@[simp] theorem State.sendNext_frame (s : State) :
    (s.sendNext).pending = s.pending ∧
    (s.sendNext).us = s.us ∧
    (s.sendNext).freeCount = s.freeCount ∧
    (s.sendNext).ram = s.ram ∧
    (s.sendNext).window = s.window ∧
    (s.sendNext).settings = s.settings ∧
    (s.sendNext).settled = s.settled ∧
    (s.sendNext).exchange = s.exchange ∧
    (s.sendNext).desk = s.desk ∧
    (s.sendNext).faults = s.faults ∧
    (s.sendNext).rows = s.rows ∧
    (s.sendNext).drive = s.drive ∧
    (s.sendNext).grid = s.grid ∧
    (s.sendNext).steer = s.steer ∧
    (s.sendNext).load = s.load ∧
    (s.sendNext).scan = s.scan ∧
    (s.sendNext).speed = s.speed ∧
    (s.sendNext).supervision = s.supervision ∧
    (s.sendNext).selfLoad = s.selfLoad ∧
    (s.sendNext).trace = s.trace ∧
    (s.sendNext).published = s.published := by
  unfold State.sendNext
  try dsimp only
  (repeat' split) <;> simp

/-- What `State.echoFailed` leaves alone. -/
@[simp] theorem State.echoFailed_frame (s : State) (n : StationId) :
    (s.echoFailed n).pending = s.pending ∧
    (s.echoFailed n).us = s.us ∧
    (s.echoFailed n).freeCount = s.freeCount ∧
    (s.echoFailed n).settings = s.settings ∧
    (s.echoFailed n).settled = s.settled ∧
    (s.echoFailed n).exchange = s.exchange ∧
    (s.echoFailed n).desk = s.desk ∧
    (s.echoFailed n).grid = s.grid ∧
    (s.echoFailed n).steer = s.steer ∧
    (s.echoFailed n).load = s.load ∧
    (s.echoFailed n).scan = s.scan ∧
    (s.echoFailed n).speed = s.speed ∧
    (s.echoFailed n).selfLoad = s.selfLoad ∧
    (s.echoFailed n).trace = s.trace := by
  unfold State.echoFailed
  try dsimp only
  simp

/-- What `State.endCharacter` leaves alone. -/
@[simp] theorem State.endCharacter_frame (s : State) :
    (s.endCharacter).pending = s.pending ∧
    (s.endCharacter).us = s.us ∧
    (s.endCharacter).freeCount = s.freeCount ∧
    (s.endCharacter).settings = s.settings ∧
    (s.endCharacter).settled = s.settled ∧
    (s.endCharacter).exchange = s.exchange ∧
    (s.endCharacter).desk = s.desk ∧
    (s.endCharacter).grid = s.grid ∧
    (s.endCharacter).steer = s.steer ∧
    (s.endCharacter).load = s.load ∧
    (s.endCharacter).scan = s.scan ∧
    (s.endCharacter).speed = s.speed ∧
    (s.endCharacter).selfLoad = s.selfLoad ∧
    (s.endCharacter).trace = s.trace := by
  unfold State.endCharacter
  try dsimp only
  (repeat' split) <;> simp

/-- What `State.checkEcho` leaves alone. -/
@[simp] theorem State.checkEcho_frame (s : State) :
    (s.checkEcho).pending = s.pending ∧
    (s.checkEcho).us = s.us ∧
    (s.checkEcho).freeCount = s.freeCount ∧
    (s.checkEcho).settings = s.settings ∧
    (s.checkEcho).settled = s.settled ∧
    (s.checkEcho).exchange = s.exchange ∧
    (s.checkEcho).desk = s.desk ∧
    (s.checkEcho).grid = s.grid ∧
    (s.checkEcho).steer = s.steer ∧
    (s.checkEcho).load = s.load ∧
    (s.checkEcho).scan = s.scan ∧
    (s.checkEcho).speed = s.speed ∧
    (s.checkEcho).selfLoad = s.selfLoad ∧
    (s.checkEcho).trace = s.trace := by
  unfold State.checkEcho
  try dsimp only
  (repeat' split) <;> simp

/-- What `State.unsolicited` leaves alone. -/
@[simp] theorem State.unsolicited_frame (s : State) :
    (s.unsolicited).pending = s.pending ∧
    (s.unsolicited).us = s.us ∧
    (s.unsolicited).freeCount = s.freeCount ∧
    (s.unsolicited).ram = s.ram ∧
    (s.unsolicited).window = s.window ∧
    (s.unsolicited).settings = s.settings ∧
    (s.unsolicited).settled = s.settled ∧
    (s.unsolicited).exchange = s.exchange ∧
    (s.unsolicited).desk = s.desk ∧
    (s.unsolicited).faults = s.faults ∧
    (s.unsolicited).rows = s.rows ∧
    (s.unsolicited).drive = s.drive ∧
    (s.unsolicited).grid = s.grid ∧
    (s.unsolicited).steer = s.steer ∧
    (s.unsolicited).load = s.load ∧
    (s.unsolicited).scan = s.scan ∧
    (s.unsolicited).speed = s.speed ∧
    (s.unsolicited).supervision = s.supervision ∧
    (s.unsolicited).selfLoad = s.selfLoad ∧
    (s.unsolicited).trace = s.trace ∧
    (s.unsolicited).timers = s.timers ∧
    (s.unsolicited).published = s.published := by
  unfold State.unsolicited
  try dsimp only
  simp

/-- What `State.enqueue` leaves alone. -/
@[simp] theorem State.enqueue_frame (s : State) (c : RxChar) :
    (s.enqueue c).pending = s.pending ∧
    (s.enqueue c).us = s.us ∧
    (s.enqueue c).freeCount = s.freeCount ∧
    (s.enqueue c).ram = s.ram ∧
    (s.enqueue c).window = s.window ∧
    (s.enqueue c).settings = s.settings ∧
    (s.enqueue c).settled = s.settled ∧
    (s.enqueue c).exchange = s.exchange ∧
    (s.enqueue c).desk = s.desk ∧
    (s.enqueue c).faults = s.faults ∧
    (s.enqueue c).rows = s.rows ∧
    (s.enqueue c).drive = s.drive ∧
    (s.enqueue c).grid = s.grid ∧
    (s.enqueue c).steer = s.steer ∧
    (s.enqueue c).load = s.load ∧
    (s.enqueue c).scan = s.scan ∧
    (s.enqueue c).speed = s.speed ∧
    (s.enqueue c).supervision = s.supervision ∧
    (s.enqueue c).selfLoad = s.selfLoad ∧
    (s.enqueue c).trace = s.trace ∧
    (s.enqueue c).timers = s.timers := by
  unfold State.enqueue
  try dsimp only
  (repeat' split) <;> simp

/-- What `State.matchFirst` leaves alone. -/
@[simp] theorem State.matchFirst_frame (s : State) (e : ExchangeInProgress) (c : RxChar) :
    (s.matchFirst e c).pending = s.pending ∧
    (s.matchFirst e c).us = s.us ∧
    (s.matchFirst e c).freeCount = s.freeCount ∧
    (s.matchFirst e c).ram = s.ram ∧
    (s.matchFirst e c).window = s.window ∧
    (s.matchFirst e c).settings = s.settings ∧
    (s.matchFirst e c).settled = s.settled ∧
    (s.matchFirst e c).exchange = s.exchange ∧
    (s.matchFirst e c).desk = s.desk ∧
    (s.matchFirst e c).faults = s.faults ∧
    (s.matchFirst e c).rows = s.rows ∧
    (s.matchFirst e c).drive = s.drive ∧
    (s.matchFirst e c).grid = s.grid ∧
    (s.matchFirst e c).steer = s.steer ∧
    (s.matchFirst e c).load = s.load ∧
    (s.matchFirst e c).scan = s.scan ∧
    (s.matchFirst e c).speed = s.speed ∧
    (s.matchFirst e c).supervision = s.supervision ∧
    (s.matchFirst e c).selfLoad = s.selfLoad ∧
    (s.matchFirst e c).trace = s.trace := by
  unfold State.matchFirst
  try dsimp only
  (repeat' split) <;> simp

/-- What `State.receiveReply` leaves alone. -/
@[simp] theorem State.receiveReply_frame (s : State) (c : RxChar) :
    (s.receiveReply c).pending = s.pending ∧
    (s.receiveReply c).us = s.us ∧
    (s.receiveReply c).freeCount = s.freeCount ∧
    (s.receiveReply c).ram = s.ram ∧
    (s.receiveReply c).window = s.window ∧
    (s.receiveReply c).settings = s.settings ∧
    (s.receiveReply c).settled = s.settled ∧
    (s.receiveReply c).exchange = s.exchange ∧
    (s.receiveReply c).desk = s.desk ∧
    (s.receiveReply c).faults = s.faults ∧
    (s.receiveReply c).rows = s.rows ∧
    (s.receiveReply c).drive = s.drive ∧
    (s.receiveReply c).grid = s.grid ∧
    (s.receiveReply c).steer = s.steer ∧
    (s.receiveReply c).load = s.load ∧
    (s.receiveReply c).scan = s.scan ∧
    (s.receiveReply c).speed = s.speed ∧
    (s.receiveReply c).supervision = s.supervision ∧
    (s.receiveReply c).selfLoad = s.selfLoad ∧
    (s.receiveReply c).trace = s.trace := by
  unfold State.receiveReply
  try dsimp only
  (repeat' split) <;> simp

/-- What `State.receive` leaves alone. -/
@[simp] theorem State.receive_frame (s : State) (c : RxChar) :
    (s.receive c).pending = s.pending ∧
    (s.receive c).us = s.us ∧
    (s.receive c).freeCount = s.freeCount ∧
    (s.receive c).ram = s.ram ∧
    (s.receive c).window = s.window ∧
    (s.receive c).settings = s.settings ∧
    (s.receive c).settled = s.settled ∧
    (s.receive c).exchange = s.exchange ∧
    (s.receive c).desk = s.desk ∧
    (s.receive c).faults = s.faults ∧
    (s.receive c).rows = s.rows ∧
    (s.receive c).drive = s.drive ∧
    (s.receive c).grid = s.grid ∧
    (s.receive c).steer = s.steer ∧
    (s.receive c).load = s.load ∧
    (s.receive c).scan = s.scan ∧
    (s.receive c).speed = s.speed ∧
    (s.receive c).supervision = s.supervision ∧
    (s.receive c).selfLoad = s.selfLoad ∧
    (s.receive c).trace = s.trace := by
  unfold State.receive
  try dsimp only
  (repeat' split) <;> simp

/-- What `State.takeLine` leaves alone. -/
@[simp] theorem State.takeLine_frame (s : State) (c : LineChar) :
    (s.takeLine c).pending = s.pending ∧
    (s.takeLine c).us = s.us ∧
    (s.takeLine c).freeCount = s.freeCount ∧
    (s.takeLine c).ram = s.ram ∧
    (s.takeLine c).window = s.window ∧
    (s.takeLine c).settings = s.settings ∧
    (s.takeLine c).settled = s.settled ∧
    (s.takeLine c).exchange = s.exchange ∧
    (s.takeLine c).desk = s.desk ∧
    (s.takeLine c).faults = s.faults ∧
    (s.takeLine c).rows = s.rows ∧
    (s.takeLine c).drive = s.drive ∧
    (s.takeLine c).grid = s.grid ∧
    (s.takeLine c).steer = s.steer ∧
    (s.takeLine c).load = s.load ∧
    (s.takeLine c).scan = s.scan ∧
    (s.takeLine c).speed = s.speed ∧
    (s.takeLine c).supervision = s.supervision ∧
    (s.takeLine c).selfLoad = s.selfLoad ∧
    (s.takeLine c).trace = s.trace := by
  unfold State.takeLine
  try dsimp only
  (repeat' split) <;> simp

/-- What `State.stationLost` leaves alone. -/
@[simp] theorem State.stationLost_frame (s : State) (n : StationId) (r : Reason) :
    (s.stationLost n r).pending = s.pending ∧
    (s.stationLost n r).us = s.us ∧
    (s.stationLost n r).freeCount = s.freeCount ∧
    (s.stationLost n r).settings = s.settings ∧
    (s.stationLost n r).settled = s.settled ∧
    (s.stationLost n r).exchange = s.exchange ∧
    (s.stationLost n r).grid = s.grid ∧
    (s.stationLost n r).load = s.load ∧
    (s.stationLost n r).scan = s.scan ∧
    (s.stationLost n r).speed = s.speed ∧
    (s.stationLost n r).trace = s.trace := by
  unfold State.stationLost
  try dsimp only
  (repeat' split) <;> simp

/-- What `State.setMismatch` leaves alone. -/
@[simp] theorem State.setMismatch_frame (s : State) (w : Wheel) (t : Option Nat) :
    (s.setMismatch w t).pending = s.pending ∧
    (s.setMismatch w t).us = s.us ∧
    (s.setMismatch w t).freeCount = s.freeCount ∧
    (s.setMismatch w t).ram = s.ram ∧
    (s.setMismatch w t).window = s.window ∧
    (s.setMismatch w t).settings = s.settings ∧
    (s.setMismatch w t).settled = s.settled ∧
    (s.setMismatch w t).exchange = s.exchange ∧
    (s.setMismatch w t).desk = s.desk ∧
    (s.setMismatch w t).faults = s.faults ∧
    (s.setMismatch w t).rows = s.rows ∧
    (s.setMismatch w t).drive = s.drive ∧
    (s.setMismatch w t).grid = s.grid ∧
    (s.setMismatch w t).steer = s.steer ∧
    (s.setMismatch w t).load = s.load ∧
    (s.setMismatch w t).scan = s.scan ∧
    (s.setMismatch w t).speed = s.speed ∧
    (s.setMismatch w t).supervision = s.supervision ∧
    (s.setMismatch w t).selfLoad = s.selfLoad ∧
    (s.setMismatch w t).trace = s.trace ∧
    (s.setMismatch w t).timers = s.timers ∧
    (s.setMismatch w t).published = s.published := by
  unfold State.setMismatch
  try dsimp only
  (repeat' split) <;> simp

/-- What `State.crossCheck` leaves alone. -/
@[simp] theorem State.crossCheck_frame (s : State) (w : Wheel) (r : TorqueReply) :
    (s.crossCheck w r).pending = s.pending ∧
    (s.crossCheck w r).us = s.us ∧
    (s.crossCheck w r).freeCount = s.freeCount ∧
    (s.crossCheck w r).settings = s.settings ∧
    (s.crossCheck w r).settled = s.settled ∧
    (s.crossCheck w r).exchange = s.exchange ∧
    (s.crossCheck w r).desk = s.desk ∧
    (s.crossCheck w r).grid = s.grid ∧
    (s.crossCheck w r).steer = s.steer ∧
    (s.crossCheck w r).load = s.load ∧
    (s.crossCheck w r).scan = s.scan ∧
    (s.crossCheck w r).speed = s.speed ∧
    (s.crossCheck w r).selfLoad = s.selfLoad ∧
    (s.crossCheck w r).trace = s.trace := by
  unfold State.crossCheck
  try dsimp only
  (repeat' split) <;> simp

/-- What `State.takeTorqueReply` leaves alone. -/
@[simp] theorem State.takeTorqueReply_frame (s : State) (w : Wheel) (r : TorqueReply) :
    (s.takeTorqueReply w r).pending = s.pending ∧
    (s.takeTorqueReply w r).us = s.us ∧
    (s.takeTorqueReply w r).freeCount = s.freeCount ∧
    (s.takeTorqueReply w r).settings = s.settings ∧
    (s.takeTorqueReply w r).settled = s.settled ∧
    (s.takeTorqueReply w r).exchange = s.exchange ∧
    (s.takeTorqueReply w r).desk = s.desk ∧
    (s.takeTorqueReply w r).grid = s.grid ∧
    (s.takeTorqueReply w r).steer = s.steer ∧
    (s.takeTorqueReply w r).scan = s.scan ∧
    (s.takeTorqueReply w r).speed = s.speed ∧
    (s.takeTorqueReply w r).selfLoad = s.selfLoad ∧
    (s.takeTorqueReply w r).trace = s.trace := by
  unfold State.takeTorqueReply
  try dsimp only
  simp

/-- What `State.acceptReply` leaves alone. -/
@[simp] theorem State.acceptReply_frame (s : State) (n : StationId) (r : Reply) :
    (s.acceptReply n r).pending = s.pending ∧
    (s.acceptReply n r).us = s.us ∧
    (s.acceptReply n r).freeCount = s.freeCount ∧
    (s.acceptReply n r).settings = s.settings ∧
    (s.acceptReply n r).settled = s.settled ∧
    (s.acceptReply n r).exchange = s.exchange ∧
    (s.acceptReply n r).desk = s.desk ∧
    (s.acceptReply n r).scan = s.scan ∧
    (s.acceptReply n r).speed = s.speed ∧
    (s.acceptReply n r).selfLoad = s.selfLoad ∧
    (s.acceptReply n r).trace = s.trace := by
  unfold State.acceptReply
  try dsimp only
  (repeat' split) <;> simp

/-- What `State.judgeStation` leaves alone. -/
@[simp] theorem State.judgeStation_frame (s : State) (n : StationId) (outcome : Option Reason) :
    (s.judgeStation n outcome).pending = s.pending ∧
    (s.judgeStation n outcome).us = s.us ∧
    (s.judgeStation n outcome).freeCount = s.freeCount ∧
    (s.judgeStation n outcome).settings = s.settings ∧
    (s.judgeStation n outcome).settled = s.settled ∧
    (s.judgeStation n outcome).exchange = s.exchange ∧
    (s.judgeStation n outcome).grid = s.grid ∧
    (s.judgeStation n outcome).load = s.load ∧
    (s.judgeStation n outcome).scan = s.scan ∧
    (s.judgeStation n outcome).speed = s.speed ∧
    (s.judgeStation n outcome).trace = s.trace := by
  unfold State.judgeStation
  try dsimp only
  (repeat' split) <;> simp

/-- What `State.endExchange` leaves alone. -/
@[simp] theorem State.endExchange_frame (s : State) (e : ExchangeInProgress) (outcome : Option Reason) (data : List (BitVec 8)) :
    (s.endExchange e outcome data).pending = s.pending ∧
    (s.endExchange e outcome data).us = s.us ∧
    (s.endExchange e outcome data).freeCount = s.freeCount ∧
    (s.endExchange e outcome data).settings = s.settings ∧
    (s.endExchange e outcome data).settled = s.settled ∧
    (s.endExchange e outcome data).exchange = s.exchange ∧
    (s.endExchange e outcome data).scan = s.scan ∧
    (s.endExchange e outcome data).speed = s.speed ∧
    (s.endExchange e outcome data).trace = s.trace := by
  unfold State.endExchange
  try dsimp only
  (repeat' split) <;> simp

/-- What `State.endAssembly` leaves alone. -/
@[simp] theorem State.endAssembly_frame (s : State) (e : ExchangeInProgress) :
    (s.endAssembly e).pending = s.pending ∧
    (s.endAssembly e).us = s.us ∧
    (s.endAssembly e).freeCount = s.freeCount ∧
    (s.endAssembly e).settings = s.settings ∧
    (s.endAssembly e).settled = s.settled ∧
    (s.endAssembly e).exchange = s.exchange ∧
    (s.endAssembly e).scan = s.scan ∧
    (s.endAssembly e).speed = s.speed ∧
    (s.endAssembly e).trace = s.trace := by
  unfold State.endAssembly
  try dsimp only
  simp

/-- What `State.assemble` leaves alone. -/
@[simp] theorem State.assemble_frame (s : State) (e : ExchangeInProgress) (c : RxChar) :
    (s.assemble e c).pending = s.pending ∧
    (s.assemble e c).us = s.us ∧
    (s.assemble e c).freeCount = s.freeCount ∧
    (s.assemble e c).settings = s.settings ∧
    (s.assemble e c).settled = s.settled ∧
    (s.assemble e c).exchange = s.exchange ∧
    (s.assemble e c).scan = s.scan ∧
    (s.assemble e c).speed = s.speed ∧
    (s.assemble e c).trace = s.trace := by
  unfold State.assemble
  try dsimp only
  (repeat' split) <;> simp

/-- What `State.drain` leaves alone. -/
@[simp] theorem State.drain_frame (s : State) :
    (s.drain).pending = s.pending ∧
    (s.drain).us = s.us ∧
    (s.drain).freeCount = s.freeCount ∧
    (s.drain).settings = s.settings ∧
    (s.drain).settled = s.settled ∧
    (s.drain).exchange = s.exchange ∧
    (s.drain).scan = s.scan ∧
    (s.drain).speed = s.speed ∧
    (s.drain).trace = s.trace := by
  unfold State.drain
  try dsimp only
  (repeat' split) <;> simp

/-- R133, R134: what a drain can do: nothing, take a character that belongs to no frame, or give it to the frame of an exchange. -/
theorem State.drain_cases (s : State) :
    (s.drain = s ∧ (s.link.queue = [] ∨ s.link.held = true)) ∨
    ∃ c rest, s.link.queue = c :: rest ∧ s.link.held = false ∧
      ((s.link.muted = true ∧ s.drain = s.setLink { s.link with queue := rest }) ∨
        (s.link.muted = false ∧ s.link.exchange = none ∧ s.drain = s.setLink { s.link with
          queue := rest, frame := { s.link.frame with chars := s.link.frame.chars ++ [c] } }) ∨
        ∃ e, s.link.muted = false ∧ s.link.exchange = some e ∧
          s.drain = (s.setLink { s.link with queue := rest }).assemble e c) := by
  cases hq : s.link.queue with
  | nil => exact .inl ⟨by simp [State.drain, hq], .inl rfl⟩
  | cons c rest =>
    cases hh : s.link.held with
    | true => exact .inl ⟨by simp [State.drain, hq, hh], .inr rfl⟩
    | false =>
      refine .inr ⟨c, rest, rfl, rfl, ?_⟩
      cases hm : s.link.muted with
      | true => exact .inl ⟨rfl, by simp [State.drain, hq, hh, hm]⟩
      | false =>
        cases he : s.link.exchange with
        | none => exact .inr (.inl ⟨rfl, rfl, by simp [State.drain, hq, hh, hm, he, State.setLink]⟩)
        | some e => exact .inr (.inr ⟨e, rfl, rfl, by simp [State.drain, hq, hh, hm, he]⟩)

/-- What `State.endFrame` leaves alone. -/
@[simp] theorem State.endFrame_frame (s : State) :
    (s.endFrame).pending = s.pending ∧
    (s.endFrame).us = s.us ∧
    (s.endFrame).freeCount = s.freeCount ∧
    (s.endFrame).settings = s.settings ∧
    (s.endFrame).settled = s.settled ∧
    (s.endFrame).exchange = s.exchange ∧
    (s.endFrame).scan = s.scan ∧
    (s.endFrame).speed = s.speed ∧
    (s.endFrame).trace = s.trace := by
  unfold State.endFrame
  try dsimp only
  (repeat' split) <;> simp

/-- What `State.endMute` leaves alone. -/
@[simp] theorem State.endMute_frame (s : State) :
    (s.endMute).pending = s.pending ∧
    (s.endMute).us = s.us ∧
    (s.endMute).freeCount = s.freeCount ∧
    (s.endMute).settings = s.settings ∧
    (s.endMute).settled = s.settled ∧
    (s.endMute).exchange = s.exchange ∧
    (s.endMute).scan = s.scan ∧
    (s.endMute).speed = s.speed ∧
    (s.endMute).trace = s.trace := by
  unfold State.endMute
  try dsimp only
  (repeat' split) <;> simp

/-- What `State.expireReply` leaves alone. -/
@[simp] theorem State.expireReply_frame (s : State) :
    (s.expireReply).pending = s.pending ∧
    (s.expireReply).us = s.us ∧
    (s.expireReply).freeCount = s.freeCount ∧
    (s.expireReply).settings = s.settings ∧
    (s.expireReply).settled = s.settled ∧
    (s.expireReply).exchange = s.exchange ∧
    (s.expireReply).scan = s.scan ∧
    (s.expireReply).speed = s.speed ∧
    (s.expireReply).trace = s.trace := by
  unfold State.expireReply
  try dsimp only
  (repeat' split) <;> simp

/-- What `State.lineStuck` leaves alone. -/
@[simp] theorem State.lineStuck_frame (s : State) :
    (s.lineStuck).pending = s.pending ∧
    (s.lineStuck).us = s.us ∧
    (s.lineStuck).freeCount = s.freeCount ∧
    (s.lineStuck).settings = s.settings ∧
    (s.lineStuck).settled = s.settled ∧
    (s.lineStuck).exchange = s.exchange ∧
    (s.lineStuck).desk = s.desk ∧
    (s.lineStuck).grid = s.grid ∧
    (s.lineStuck).steer = s.steer ∧
    (s.lineStuck).load = s.load ∧
    (s.lineStuck).scan = s.scan ∧
    (s.lineStuck).speed = s.speed ∧
    (s.lineStuck).selfLoad = s.selfLoad ∧
    (s.lineStuck).trace = s.trace := by
  unfold State.lineStuck
  try dsimp only
  (repeat' split) <;> simp

/-- What `State.lineCleared` leaves alone. -/
@[simp] theorem State.lineCleared_frame (s : State) :
    (s.lineCleared).pending = s.pending ∧
    (s.lineCleared).us = s.us ∧
    (s.lineCleared).freeCount = s.freeCount ∧
    (s.lineCleared).settings = s.settings ∧
    (s.lineCleared).settled = s.settled ∧
    (s.lineCleared).exchange = s.exchange ∧
    (s.lineCleared).desk = s.desk ∧
    (s.lineCleared).grid = s.grid ∧
    (s.lineCleared).steer = s.steer ∧
    (s.lineCleared).load = s.load ∧
    (s.lineCleared).scan = s.scan ∧
    (s.lineCleared).speed = s.speed ∧
    (s.lineCleared).selfLoad = s.selfLoad ∧
    (s.lineCleared).trace = s.trace := by
  unfold State.lineCleared
  try dsimp only
  (repeat' split) <;> simp

/-- What `State.startHalt` leaves alone. -/
@[simp] theorem State.startHalt_frame (s : State) :
    (s.startHalt).pending = s.pending ∧
    (s.startHalt).us = s.us ∧
    (s.startHalt).freeCount = s.freeCount ∧
    (s.startHalt).ram = s.ram ∧
    (s.startHalt).window = s.window ∧
    (s.startHalt).settings = s.settings ∧
    (s.startHalt).settled = s.settled ∧
    (s.startHalt).exchange = s.exchange ∧
    (s.startHalt).desk = s.desk ∧
    (s.startHalt).faults = s.faults ∧
    (s.startHalt).rows = s.rows ∧
    (s.startHalt).drive = s.drive ∧
    (s.startHalt).grid = s.grid ∧
    (s.startHalt).steer = s.steer ∧
    (s.startHalt).load = s.load ∧
    (s.startHalt).scan = s.scan ∧
    (s.startHalt).speed = s.speed ∧
    (s.startHalt).supervision = s.supervision ∧
    (s.startHalt).selfLoad = s.selfLoad ∧
    (s.startHalt).trace = s.trace ∧
    (s.startHalt).published = s.published := by
  unfold State.startHalt
  try dsimp only
  (repeat' split) <;> simp

/-- What `State.endHalt` leaves alone. -/
@[simp] theorem State.endHalt_frame (s : State) :
    (s.endHalt).pending = s.pending ∧
    (s.endHalt).us = s.us ∧
    (s.endHalt).freeCount = s.freeCount ∧
    (s.endHalt).ram = s.ram ∧
    (s.endHalt).settings = s.settings ∧
    (s.endHalt).settled = s.settled ∧
    (s.endHalt).exchange = s.exchange ∧
    (s.endHalt).desk = s.desk ∧
    (s.endHalt).faults = s.faults ∧
    (s.endHalt).rows = s.rows ∧
    (s.endHalt).drive = s.drive ∧
    (s.endHalt).grid = s.grid ∧
    (s.endHalt).steer = s.steer ∧
    (s.endHalt).load = s.load ∧
    (s.endHalt).scan = s.scan ∧
    (s.endHalt).speed = s.speed ∧
    (s.endHalt).supervision = s.supervision ∧
    (s.endHalt).selfLoad = s.selfLoad ∧
    (s.endHalt).trace = s.trace ∧
    (s.endHalt).published = s.published := by
  unfold State.endHalt
  try dsimp only
  (repeat' split) <;> simp

/-- What `State.endHold` leaves alone. -/
@[simp] theorem State.endHold_frame (s : State) :
    (s.endHold).pending = s.pending ∧
    (s.endHold).us = s.us ∧
    (s.endHold).freeCount = s.freeCount ∧
    (s.endHold).ram = s.ram ∧
    (s.endHold).window = s.window ∧
    (s.endHold).settings = s.settings ∧
    (s.endHold).settled = s.settled ∧
    (s.endHold).exchange = s.exchange ∧
    (s.endHold).desk = s.desk ∧
    (s.endHold).faults = s.faults ∧
    (s.endHold).rows = s.rows ∧
    (s.endHold).drive = s.drive ∧
    (s.endHold).grid = s.grid ∧
    (s.endHold).steer = s.steer ∧
    (s.endHold).load = s.load ∧
    (s.endHold).scan = s.scan ∧
    (s.endHold).speed = s.speed ∧
    (s.endHold).supervision = s.supervision ∧
    (s.endHold).selfLoad = s.selfLoad ∧
    (s.endHold).trace = s.trace ∧
    (s.endHold).published = s.published := by
  unfold State.endHold
  try dsimp only
  simp

/-- What `State.tellLink` leaves alone. -/
@[simp] theorem State.tellLink_frame (s : State) (c : FaultCode) :
    (s.tellLink c).pending = s.pending ∧
    (s.tellLink c).us = s.us ∧
    (s.tellLink c).freeCount = s.freeCount ∧
    (s.tellLink c).ram = s.ram ∧
    (s.tellLink c).window = s.window ∧
    (s.tellLink c).settings = s.settings ∧
    (s.tellLink c).settled = s.settled ∧
    (s.tellLink c).exchange = s.exchange ∧
    (s.tellLink c).desk = s.desk ∧
    (s.tellLink c).faults = s.faults ∧
    (s.tellLink c).rows = s.rows ∧
    (s.tellLink c).drive = s.drive ∧
    (s.tellLink c).grid = s.grid ∧
    (s.tellLink c).steer = s.steer ∧
    (s.tellLink c).load = s.load ∧
    (s.tellLink c).scan = s.scan ∧
    (s.tellLink c).speed = s.speed ∧
    (s.tellLink c).supervision = s.supervision ∧
    (s.tellLink c).selfLoad = s.selfLoad ∧
    (s.tellLink c).trace = s.trace ∧
    (s.tellLink c).timers = s.timers := by
  unfold State.tellLink
  try dsimp only
  (repeat' split) <;> simp

/-- What `State.dropStation` leaves alone. -/
@[simp] theorem State.dropStation_frame (s : State) (n : StationId) :
    (s.dropStation n).pending = s.pending ∧
    (s.dropStation n).us = s.us ∧
    (s.dropStation n).freeCount = s.freeCount ∧
    (s.dropStation n).window = s.window ∧
    (s.dropStation n).settings = s.settings ∧
    (s.dropStation n).settled = s.settled ∧
    (s.dropStation n).exchange = s.exchange ∧
    (s.dropStation n).desk = s.desk ∧
    (s.dropStation n).rows = s.rows ∧
    (s.dropStation n).drive = s.drive ∧
    (s.dropStation n).grid = s.grid ∧
    (s.dropStation n).steer = s.steer ∧
    (s.dropStation n).load = s.load ∧
    (s.dropStation n).scan = s.scan ∧
    (s.dropStation n).speed = s.speed ∧
    (s.dropStation n).supervision = s.supervision ∧
    (s.dropStation n).selfLoad = s.selfLoad ∧
    (s.dropStation n).trace = s.trace ∧
    (s.dropStation n).timers = s.timers ∧
    (s.dropStation n).published = s.published := by
  unfold State.dropStation
  cases n <;> simp [StationId.replyFaults]

/-- What `State.restartLink` leaves alone. -/
@[simp] theorem State.restartLink_frame (s : State) :
    (s.restartLink).pending = s.pending ∧
    (s.restartLink).us = s.us ∧
    (s.restartLink).freeCount = s.freeCount ∧
    (s.restartLink).window = s.window ∧
    (s.restartLink).settings = s.settings ∧
    (s.restartLink).settled = s.settled ∧
    (s.restartLink).exchange = s.exchange ∧
    (s.restartLink).desk = s.desk ∧
    (s.restartLink).rows = s.rows ∧
    (s.restartLink).drive = s.drive ∧
    (s.restartLink).grid = s.grid ∧
    (s.restartLink).steer = s.steer ∧
    (s.restartLink).load = s.load ∧
    (s.restartLink).scan = s.scan ∧
    (s.restartLink).speed = s.speed ∧
    (s.restartLink).supervision = s.supervision ∧
    (s.restartLink).selfLoad = s.selfLoad ∧
    (s.restartLink).trace = s.trace := by
  unfold State.restartLink
  dsimp only [List.foldl]
  (repeat' split) <;> simp

/-- What `State.softResetLink` leaves alone. -/
@[simp] theorem State.softResetLink_frame (s : State) :
    (s.softResetLink).pending = s.pending ∧
    (s.softResetLink).us = s.us ∧
    (s.softResetLink).freeCount = s.freeCount ∧
    (s.softResetLink).ram = s.ram ∧
    (s.softResetLink).window = s.window ∧
    (s.softResetLink).settings = s.settings ∧
    (s.softResetLink).settled = s.settled ∧
    (s.softResetLink).exchange = s.exchange ∧
    (s.softResetLink).desk = s.desk ∧
    (s.softResetLink).faults = s.faults ∧
    (s.softResetLink).rows = s.rows ∧
    (s.softResetLink).drive = s.drive ∧
    (s.softResetLink).grid = s.grid ∧
    (s.softResetLink).steer = s.steer ∧
    (s.softResetLink).load = s.load ∧
    (s.softResetLink).scan = s.scan ∧
    (s.softResetLink).speed = s.speed ∧
    (s.softResetLink).supervision = s.supervision ∧
    (s.softResetLink).selfLoad = s.selfLoad ∧
    (s.softResetLink).trace = s.trace ∧
    (s.softResetLink).published = s.published := by
  unfold State.softResetLink
  try dsimp only
  simp

/-- What `State.boardResetLink` leaves alone. -/
@[simp] theorem State.boardResetLink_frame (s : State) :
    (s.boardResetLink).pending = s.pending ∧
    (s.boardResetLink).us = s.us ∧
    (s.boardResetLink).freeCount = s.freeCount ∧
    (s.boardResetLink).ram = s.ram ∧
    (s.boardResetLink).window = s.window ∧
    (s.boardResetLink).settings = s.settings ∧
    (s.boardResetLink).settled = s.settled ∧
    (s.boardResetLink).exchange = s.exchange ∧
    (s.boardResetLink).desk = s.desk ∧
    (s.boardResetLink).faults = s.faults ∧
    (s.boardResetLink).rows = s.rows ∧
    (s.boardResetLink).drive = s.drive ∧
    (s.boardResetLink).grid = s.grid ∧
    (s.boardResetLink).steer = s.steer ∧
    (s.boardResetLink).load = s.load ∧
    (s.boardResetLink).scan = s.scan ∧
    (s.boardResetLink).speed = s.speed ∧
    (s.boardResetLink).supervision = s.supervision ∧
    (s.boardResetLink).selfLoad = s.selfLoad ∧
    (s.boardResetLink).trace = s.trace ∧
    (s.boardResetLink).published = s.published := by
  unfold State.boardResetLink
  try dsimp only
  simp

end Sys2Proof.Machine
end

