-- ==== Sys2Proof/Laws/FrameExchangeUnit.lean ====
section
/-! SUPPORT. What each operation of Machine/ExchangeUnit.lean leaves alone: every field of the State that it does not name
keeps its value. -/

namespace Sys2Proof.Machine

/-- What `State.acceptSlate` leaves alone. -/
@[simp] theorem State.acceptSlate_frame (s : State) (stamp : Word) :
    (s.acceptSlate stamp).pending = s.pending ∧
    (s.acceptSlate stamp).us = s.us ∧
    (s.acceptSlate stamp).freeCount = s.freeCount ∧
    (s.acceptSlate stamp).settings = s.settings ∧
    (s.acceptSlate stamp).settled = s.settled ∧
    (s.acceptSlate stamp).grid = s.grid ∧
    (s.acceptSlate stamp).steer = s.steer ∧
    (s.acceptSlate stamp).load = s.load ∧
    (s.acceptSlate stamp).scan = s.scan ∧
    (s.acceptSlate stamp).speed = s.speed ∧
    (s.acceptSlate stamp).trace = s.trace := by
  unfold State.acceptSlate
  try dsimp only
  (repeat' split) <;> simp

/-- What `State.pickUp` leaves alone. -/
@[simp] theorem State.pickUp_frame (s : State) :
    (s.pickUp).pending = s.pending ∧
    (s.pickUp).us = s.us ∧
    (s.pickUp).freeCount = s.freeCount ∧
    (s.pickUp).settings = s.settings ∧
    (s.pickUp).settled = s.settled ∧
    (s.pickUp).grid = s.grid ∧
    (s.pickUp).steer = s.steer ∧
    (s.pickUp).load = s.load ∧
    (s.pickUp).scan = s.scan ∧
    (s.pickUp).speed = s.speed ∧
    (s.pickUp).trace = s.trace := by
  unfold State.pickUp
  try dsimp only
  (repeat' split) <;> simp

/-- What `State.unlatch` leaves alone. -/
@[simp] theorem State.unlatch_frame (s : State) (c : FaultCode) :
    (s.unlatch c).pending = s.pending ∧
    (s.unlatch c).us = s.us ∧
    (s.unlatch c).freeCount = s.freeCount ∧
    (s.unlatch c).window = s.window ∧
    (s.unlatch c).settings = s.settings ∧
    (s.unlatch c).settled = s.settled ∧
    (s.unlatch c).exchange = s.exchange ∧
    (s.unlatch c).desk = s.desk ∧
    (s.unlatch c).rows = s.rows ∧
    (s.unlatch c).drive = s.drive ∧
    (s.unlatch c).grid = s.grid ∧
    (s.unlatch c).steer = s.steer ∧
    (s.unlatch c).load = s.load ∧
    (s.unlatch c).link = s.link ∧
    (s.unlatch c).scan = s.scan ∧
    (s.unlatch c).speed = s.speed ∧
    (s.unlatch c).supervision = s.supervision ∧
    (s.unlatch c).selfLoad = s.selfLoad ∧
    (s.unlatch c).trace = s.trace ∧
    (s.unlatch c).timers = s.timers ∧
    (s.unlatch c).published = s.published := by
  unfold State.unlatch
  try dsimp only
  (repeat' split) <;> simp

/-- What `State.tellOwners` leaves alone. -/
@[simp] theorem State.tellOwners_frame (s : State) (c : FaultCode) :
    (s.tellOwners c).pending = s.pending ∧
    (s.tellOwners c).us = s.us ∧
    (s.tellOwners c).freeCount = s.freeCount ∧
    (s.tellOwners c).ram = s.ram ∧
    (s.tellOwners c).window = s.window ∧
    (s.tellOwners c).settings = s.settings ∧
    (s.tellOwners c).settled = s.settled ∧
    (s.tellOwners c).exchange = s.exchange ∧
    (s.tellOwners c).desk = s.desk ∧
    (s.tellOwners c).faults = s.faults ∧
    (s.tellOwners c).drive = s.drive ∧
    (s.tellOwners c).load = s.load ∧
    (s.tellOwners c).scan = s.scan ∧
    (s.tellOwners c).speed = s.speed ∧
    (s.tellOwners c).supervision = s.supervision ∧
    (s.tellOwners c).selfLoad = s.selfLoad ∧
    (s.tellOwners c).trace = s.trace ∧
    (s.tellOwners c).timers = s.timers := by
  unfold State.tellOwners
  try dsimp only
  simp

/-- What `State.leaveTripped` leaves alone. -/
@[simp] theorem State.leaveTripped_frame (s : State) (cleared : Bool) :
    (s.leaveTripped cleared).pending = s.pending ∧
    (s.leaveTripped cleared).us = s.us ∧
    (s.leaveTripped cleared).freeCount = s.freeCount ∧
    (s.leaveTripped cleared).ram = s.ram ∧
    (s.leaveTripped cleared).settings = s.settings ∧
    (s.leaveTripped cleared).settled = s.settled ∧
    (s.leaveTripped cleared).exchange = s.exchange ∧
    (s.leaveTripped cleared).desk = s.desk ∧
    (s.leaveTripped cleared).faults = s.faults ∧
    (s.leaveTripped cleared).grid = s.grid ∧
    (s.leaveTripped cleared).steer = s.steer ∧
    (s.leaveTripped cleared).load = s.load ∧
    (s.leaveTripped cleared).scan = s.scan ∧
    (s.leaveTripped cleared).speed = s.speed ∧
    (s.leaveTripped cleared).selfLoad = s.selfLoad ∧
    (s.leaveTripped cleared).trace = s.trace := by
  unfold State.leaveTripped
  try dsimp only
  (repeat' split) <;> simp

/-- What `State.clearCodes` leaves alone. -/
@[simp] theorem State.clearCodes_frame (s : State) (codes : List FaultCode) :
    (s.clearCodes codes).pending = s.pending ∧
    (s.clearCodes codes).us = s.us ∧
    (s.clearCodes codes).freeCount = s.freeCount ∧
    (s.clearCodes codes).settings = s.settings ∧
    (s.clearCodes codes).settled = s.settled ∧
    (s.clearCodes codes).exchange = s.exchange ∧
    (s.clearCodes codes).desk = s.desk ∧
    (s.clearCodes codes).load = s.load ∧
    (s.clearCodes codes).scan = s.scan ∧
    (s.clearCodes codes).speed = s.speed ∧
    (s.clearCodes codes).selfLoad = s.selfLoad ∧
    (s.clearCodes codes).trace = s.trace := by
  unfold State.clearCodes
  dsimp only
  exact ⟨by simp only [State.leaveTripped_frame]; rw [State.foldl_keeps State.pending _ (by simp), State.foldl_keeps State.pending _ (by simp)],
    by simp only [State.leaveTripped_frame]; rw [State.foldl_keeps State.us _ (by simp), State.foldl_keeps State.us _ (by simp)],
    by simp only [State.leaveTripped_frame]; rw [State.foldl_keeps State.freeCount _ (by simp), State.foldl_keeps State.freeCount _ (by simp)],
    by simp only [State.leaveTripped_frame]; rw [State.foldl_keeps State.settings _ (by simp), State.foldl_keeps State.settings _ (by simp)],
    by simp only [State.leaveTripped_frame]; rw [State.foldl_keeps State.settled _ (by simp), State.foldl_keeps State.settled _ (by simp)],
    by simp only [State.leaveTripped_frame]; rw [State.foldl_keeps State.exchange _ (by simp), State.foldl_keeps State.exchange _ (by simp)],
    by simp only [State.leaveTripped_frame]; rw [State.foldl_keeps State.desk _ (by simp), State.foldl_keeps State.desk _ (by simp)],
    by simp only [State.leaveTripped_frame]; rw [State.foldl_keeps State.load _ (by simp), State.foldl_keeps State.load _ (by simp)],
    by simp only [State.leaveTripped_frame]; rw [State.foldl_keeps State.scan _ (by simp), State.foldl_keeps State.scan _ (by simp)],
    by simp only [State.leaveTripped_frame]; rw [State.foldl_keeps State.speed _ (by simp), State.foldl_keeps State.speed _ (by simp)],
    by simp only [State.leaveTripped_frame]; rw [State.foldl_keeps State.selfLoad _ (by simp), State.foldl_keeps State.selfLoad _ (by simp)],
    by simp only [State.leaveTripped_frame]; rw [State.foldl_keeps State.trace _ (by simp), State.foldl_keeps State.trace _ (by simp)]⟩

/-- What `State.handClearFault` leaves alone. -/
@[simp] theorem State.handClearFault_frame (s : State) (o : HeldOrder) :
    (s.handClearFault o).pending = s.pending ∧
    (s.handClearFault o).us = s.us ∧
    (s.handClearFault o).freeCount = s.freeCount ∧
    (s.handClearFault o).settings = s.settings ∧
    (s.handClearFault o).settled = s.settled ∧
    (s.handClearFault o).exchange = s.exchange ∧
    (s.handClearFault o).desk = s.desk ∧
    (s.handClearFault o).load = s.load ∧
    (s.handClearFault o).scan = s.scan ∧
    (s.handClearFault o).speed = s.speed ∧
    (s.handClearFault o).selfLoad = s.selfLoad ∧
    (s.handClearFault o).trace = s.trace := by
  unfold State.handClearFault
  try dsimp only
  (repeat' split) <;> simp

end Sys2Proof.Machine
end

