-- ==== Sys2Proof/Laws/FrameOrders.lean ====
section
/-! SUPPORT. What each operation of Machine/Orders.lean leaves alone: every field of the State that it does not name
keeps its value; and when a slot offers an order. -/

namespace Sys2Proof.Machine

/-- What `State.restartBlocks` leaves alone. -/
@[simp] theorem State.restartBlocks_frame (s : State) :
    (s.restartBlocks).pending = s.pending ∧
    (s.restartBlocks).us = s.us ∧
    (s.restartBlocks).freeCount = s.freeCount ∧
    (s.restartBlocks).window = s.window ∧
    (s.restartBlocks).settings = s.settings ∧
    (s.restartBlocks).settled = s.settled ∧
    (s.restartBlocks).exchange = s.exchange ∧
    (s.restartBlocks).desk = s.desk ∧
    (s.restartBlocks).rows = s.rows ∧
    (s.restartBlocks).drive = s.drive ∧
    (s.restartBlocks).grid = s.grid ∧
    (s.restartBlocks).speed = s.speed ∧
    (s.restartBlocks).supervision = s.supervision ∧
    (s.restartBlocks).selfLoad = s.selfLoad := by
  unfold State.restartBlocks
  try dsimp only
  simp

/-- What `State.handApply` leaves alone. -/
@[simp] theorem State.handApply_frame (s : State) (o : HeldOrder) :
    (s.handApply o).pending = s.pending ∧
    (s.handApply o).us = s.us ∧
    (s.handApply o).freeCount = s.freeCount ∧
    (s.handApply o).settled = s.settled ∧
    (s.handApply o).exchange = s.exchange ∧
    (s.handApply o).rows = s.rows ∧
    (s.handApply o).drive = s.drive ∧
    (s.handApply o).grid = s.grid ∧
    (s.handApply o).speed = s.speed ∧
    (s.handApply o).supervision = s.supervision ∧
    (s.handApply o).selfLoad = s.selfLoad := by
  unfold State.handApply
  try dsimp only
  (repeat' split) <;> simp

/-- What `State.handArm` leaves alone. -/
@[simp] theorem State.handArm_frame (s : State) (o : HeldOrder) :
    (s.handArm o).pending = s.pending ∧
    (s.handArm o).us = s.us ∧
    (s.handArm o).freeCount = s.freeCount ∧
    (s.handArm o).settings = s.settings ∧
    (s.handArm o).settled = s.settled ∧
    (s.handArm o).exchange = s.exchange ∧
    (s.handArm o).desk = s.desk ∧
    (s.handArm o).faults = s.faults ∧
    (s.handArm o).grid = s.grid ∧
    (s.handArm o).steer = s.steer ∧
    (s.handArm o).load = s.load ∧
    (s.handArm o).link = s.link ∧
    (s.handArm o).scan = s.scan ∧
    (s.handArm o).speed = s.speed ∧
    (s.handArm o).selfLoad = s.selfLoad ∧
    (s.handArm o).trace = s.trace := by
  unfold State.handArm
  try dsimp only
  (repeat' split) <;> simp

/-- What `State.handDisarm` leaves alone. -/
@[simp] theorem State.handDisarm_frame (s : State) (o : HeldOrder) :
    (s.handDisarm o).pending = s.pending ∧
    (s.handDisarm o).us = s.us ∧
    (s.handDisarm o).freeCount = s.freeCount ∧
    (s.handDisarm o).settings = s.settings ∧
    (s.handDisarm o).settled = s.settled ∧
    (s.handDisarm o).exchange = s.exchange ∧
    (s.handDisarm o).desk = s.desk ∧
    (s.handDisarm o).faults = s.faults ∧
    (s.handDisarm o).grid = s.grid ∧
    (s.handDisarm o).steer = s.steer ∧
    (s.handDisarm o).load = s.load ∧
    (s.handDisarm o).scan = s.scan ∧
    (s.handDisarm o).speed = s.speed ∧
    (s.handDisarm o).selfLoad = s.selfLoad ∧
    (s.handDisarm o).trace = s.trace := by
  unfold State.handDisarm
  try dsimp only
  (repeat' split) <;> simp

/-- What `State.handOver` leaves alone. -/
@[simp] theorem State.handOver_frame (s : State) (k : OrderKind) (o : HeldOrder) :
    (s.handOver k o).pending = s.pending ∧
    (s.handOver k o).us = s.us ∧
    (s.handOver k o).freeCount = s.freeCount ∧
    (s.handOver k o).settled = s.settled ∧
    (s.handOver k o).exchange = s.exchange ∧
    (s.handOver k o).speed = s.speed := by
  unfold State.handOver
  try dsimp only
  (repeat' split) <;> simp

/-- What `State.takeAndHand` leaves alone. -/
@[simp] theorem State.takeAndHand_frame (s : State) (slot : Fin 16) (k : OrderKind) :
    (s.takeAndHand slot k).pending = s.pending ∧
    (s.takeAndHand slot k).us = s.us ∧
    (s.takeAndHand slot k).freeCount = s.freeCount ∧
    (s.takeAndHand slot k).settled = s.settled ∧
    (s.takeAndHand slot k).exchange = s.exchange ∧
    (s.takeAndHand slot k).speed = s.speed := by
  unfold State.takeAndHand
  try dsimp only
  simp

/-- What `State.dealWith` leaves alone. -/
@[simp] theorem State.dealWith_frame (s : State) (slot : Fin 16) (k : OrderKind) (waiting : Bool) :
    (s.dealWith slot k waiting).1.pending = s.pending ∧
    (s.dealWith slot k waiting).1.us = s.us ∧
    (s.dealWith slot k waiting).1.freeCount = s.freeCount ∧
    (s.dealWith slot k waiting).1.settled = s.settled ∧
    (s.dealWith slot k waiting).1.exchange = s.exchange ∧
    (s.dealWith slot k waiting).1.speed = s.speed := by
  unfold State.dealWith
  try dsimp only
  (repeat' split) <;> simp

/-- What `State.sweep` leaves alone. -/
@[simp] theorem State.sweep_frame (s : State) :
    (s.sweep).pending = s.pending ∧
    (s.sweep).us = s.us ∧
    (s.sweep).freeCount = s.freeCount ∧
    (s.sweep).settled = s.settled ∧
    (s.sweep).exchange = s.exchange ∧
    (s.sweep).speed = s.speed := by
  unfold State.sweep
  dsimp only
  exact ⟨by rw [State.foldl_keeps (fun p => p.1.pending) sweepSlot (fun p x => by unfold sweepSlot; (repeat' split) <;> simp)]; rfl,
    by rw [State.foldl_keeps (fun p => p.1.us) sweepSlot (fun p x => by unfold sweepSlot; (repeat' split) <;> simp)]; rfl,
    by rw [State.foldl_keeps (fun p => p.1.freeCount) sweepSlot (fun p x => by unfold sweepSlot; (repeat' split) <;> simp)]; rfl,
    by rw [State.foldl_keeps (fun p => p.1.settled) sweepSlot (fun p x => by unfold sweepSlot; (repeat' split) <;> simp)]; rfl,
    by rw [State.foldl_keeps (fun p => p.1.exchange) sweepSlot (fun p x => by unfold sweepSlot; (repeat' split) <;> simp)]; rfl,
    by rw [State.foldl_keeps (fun p => p.1.speed) sweepSlot (fun p x => by unfold sweepSlot; (repeat' split) <;> simp)]; rfl⟩

/-- What `State.order` leaves alone. -/
@[simp] theorem State.order_frame (s : State) (slot : Fin 16) (k : OrderKind) :
    (s.order slot k).pending = s.pending ∧
    (s.order slot k).us = s.us ∧
    (s.order slot k).freeCount = s.freeCount ∧
    (s.order slot k).settled = s.settled ∧
    (s.order slot k).exchange = s.exchange ∧
    (s.order slot k).speed = s.speed := by
  unfold State.order
  try dsimp only
  (repeat' split) <;> simp

/-! ## The slots that offer an order (R190) -/

/-- R190: the desk holds a slot's order where one of its three records names the slot. -/
theorem OrderDesk.holds_iff (x : OrderDesk) (slot : Fin 16) :
    x.holds slot = true ↔ x.apply.map (fun o => o.slot) = some slot ∨ x.start.map (fun o => o.slot) = some slot ∨
      x.tare.map (fun o => o.slot) = some slot := by
  simp [OrderDesk.holds, Option.map_eq_some_iff, Option.any_eq_true]

/-- R189, R190: a sweep passes over a slot that offers no order. -/
theorem sweepSlot_of_not_offers (s : State) (left : List Owner) (slot : Fin 16) (h : s.offers slot = false) :
    sweepSlot (s, left) slot = (s, left) := by
  simp [sweepSlot, h]

/-- R189, R190: the command of an order in a slot that offers none changes nothing. -/
theorem State.order_of_not_offers (s : State) (slot : Fin 16) (k : OrderKind) (h : s.offers slot = false) :
    s.order slot k = s := by
  simp [State.order, h]

end Sys2Proof.Machine
end

