-- ==== Sys2Proof/Laws/FrameSpeedTimers.lean ====
section
/-! SUPPORT. What each operation of Machine/SpeedTimers.lean leaves alone: every field of the State that it does not name
keeps its value. -/

namespace Sys2Proof.Machine

/-- What `State.setChannel` leaves alone. -/
@[simp] theorem State.setChannel_frame (s : State) (c : Channel) (x : ChannelRecord) :
    (s.setChannel c x).pending = s.pending ∧
    (s.setChannel c x).us = s.us ∧
    (s.setChannel c x).freeCount = s.freeCount ∧
    (s.setChannel c x).ram = s.ram ∧
    (s.setChannel c x).window = s.window ∧
    (s.setChannel c x).settings = s.settings ∧
    (s.setChannel c x).settled = s.settled ∧
    (s.setChannel c x).exchange = s.exchange ∧
    (s.setChannel c x).desk = s.desk ∧
    (s.setChannel c x).faults = s.faults ∧
    (s.setChannel c x).rows = s.rows ∧
    (s.setChannel c x).drive = s.drive ∧
    (s.setChannel c x).grid = s.grid ∧
    (s.setChannel c x).steer = s.steer ∧
    (s.setChannel c x).load = s.load ∧
    (s.setChannel c x).link = s.link ∧
    (s.setChannel c x).scan = s.scan ∧
    (s.setChannel c x).supervision = s.supervision ∧
    (s.setChannel c x).selfLoad = s.selfLoad ∧
    (s.setChannel c x).trace = s.trace ∧
    (s.setChannel c x).timers = s.timers ∧
    (s.setChannel c x).published = s.published := by
  unfold State.setChannel
  try dsimp only
  simp

/-- What `State.recomputeSpeed` leaves alone. -/
@[simp] theorem State.recomputeSpeed_frame (s : State) :
    (s.recomputeSpeed).pending = s.pending ∧
    (s.recomputeSpeed).us = s.us ∧
    (s.recomputeSpeed).freeCount = s.freeCount ∧
    (s.recomputeSpeed).settings = s.settings ∧
    (s.recomputeSpeed).settled = s.settled ∧
    (s.recomputeSpeed).exchange = s.exchange ∧
    (s.recomputeSpeed).desk = s.desk ∧
    (s.recomputeSpeed).grid = s.grid ∧
    (s.recomputeSpeed).steer = s.steer ∧
    (s.recomputeSpeed).load = s.load ∧
    (s.recomputeSpeed).scan = s.scan ∧
    (s.recomputeSpeed).selfLoad = s.selfLoad ∧
    (s.recomputeSpeed).trace = s.trace := by
  unfold State.recomputeSpeed
  try dsimp only
  (repeat' split) <;> simp

/-- What `State.restartSilence` leaves alone. -/
@[simp] theorem State.restartSilence_frame (s : State) (c : Channel) :
    (s.restartSilence c).pending = s.pending ∧
    (s.restartSilence c).us = s.us ∧
    (s.restartSilence c).freeCount = s.freeCount ∧
    (s.restartSilence c).ram = s.ram ∧
    (s.restartSilence c).window = s.window ∧
    (s.restartSilence c).settings = s.settings ∧
    (s.restartSilence c).settled = s.settled ∧
    (s.restartSilence c).exchange = s.exchange ∧
    (s.restartSilence c).desk = s.desk ∧
    (s.restartSilence c).faults = s.faults ∧
    (s.restartSilence c).rows = s.rows ∧
    (s.restartSilence c).drive = s.drive ∧
    (s.restartSilence c).grid = s.grid ∧
    (s.restartSilence c).steer = s.steer ∧
    (s.restartSilence c).load = s.load ∧
    (s.restartSilence c).link = s.link ∧
    (s.restartSilence c).scan = s.scan ∧
    (s.restartSilence c).speed = s.speed ∧
    (s.restartSilence c).supervision = s.supervision ∧
    (s.restartSilence c).selfLoad = s.selfLoad ∧
    (s.restartSilence c).trace = s.trace ∧
    (s.restartSilence c).published = s.published := by
  unfold State.restartSilence
  try dsimp only
  simp

/-- What `State.judgePartner` leaves alone. -/
@[simp] theorem State.judgePartner_frame (s : State) (c : Channel) :
    (s.judgePartner c).pending = s.pending ∧
    (s.judgePartner c).us = s.us ∧
    (s.judgePartner c).freeCount = s.freeCount ∧
    (s.judgePartner c).settings = s.settings ∧
    (s.judgePartner c).settled = s.settled ∧
    (s.judgePartner c).exchange = s.exchange ∧
    (s.judgePartner c).desk = s.desk ∧
    (s.judgePartner c).grid = s.grid ∧
    (s.judgePartner c).steer = s.steer ∧
    (s.judgePartner c).load = s.load ∧
    (s.judgePartner c).scan = s.scan ∧
    (s.judgePartner c).selfLoad = s.selfLoad ∧
    (s.judgePartner c).trace = s.trace := by
  unfold State.judgePartner
  try dsimp only
  (repeat' split) <;> simp

/-- What `State.reportReturn` leaves alone. -/
@[simp] theorem State.reportReturn_frame (s : State) (c : Channel) (before : ChannelState) :
    (s.reportReturn c before).pending = s.pending ∧
    (s.reportReturn c before).us = s.us ∧
    (s.reportReturn c before).freeCount = s.freeCount ∧
    (s.reportReturn c before).window = s.window ∧
    (s.reportReturn c before).settings = s.settings ∧
    (s.reportReturn c before).settled = s.settled ∧
    (s.reportReturn c before).exchange = s.exchange ∧
    (s.reportReturn c before).desk = s.desk ∧
    (s.reportReturn c before).rows = s.rows ∧
    (s.reportReturn c before).drive = s.drive ∧
    (s.reportReturn c before).grid = s.grid ∧
    (s.reportReturn c before).steer = s.steer ∧
    (s.reportReturn c before).load = s.load ∧
    (s.reportReturn c before).link = s.link ∧
    (s.reportReturn c before).scan = s.scan ∧
    (s.reportReturn c before).speed = s.speed ∧
    (s.reportReturn c before).supervision = s.supervision ∧
    (s.reportReturn c before).selfLoad = s.selfLoad ∧
    (s.reportReturn c before).trace = s.trace ∧
    (s.reportReturn c before).timers = s.timers ∧
    (s.reportReturn c before).published = s.published := by
  unfold State.reportReturn
  try dsimp only
  (repeat' split) <;> simp

/-- What `State.acceptEdge` leaves alone. -/
@[simp] theorem State.acceptEdge_frame (s : State) (c : Channel) (x : ChannelRecord) :
    (s.acceptEdge c x).pending = s.pending ∧
    (s.acceptEdge c x).us = s.us ∧
    (s.acceptEdge c x).freeCount = s.freeCount ∧
    (s.acceptEdge c x).settings = s.settings ∧
    (s.acceptEdge c x).settled = s.settled ∧
    (s.acceptEdge c x).exchange = s.exchange ∧
    (s.acceptEdge c x).desk = s.desk ∧
    (s.acceptEdge c x).grid = s.grid ∧
    (s.acceptEdge c x).steer = s.steer ∧
    (s.acceptEdge c x).load = s.load ∧
    (s.acceptEdge c x).scan = s.scan ∧
    (s.acceptEdge c x).selfLoad = s.selfLoad ∧
    (s.acceptEdge c x).trace = s.trace := by
  unfold State.acceptEdge
  try dsimp only
  simp

/-- What `State.edge` leaves alone. -/
@[simp] theorem State.edge_frame (s : State) (c : Channel) :
    (s.edge c).pending = s.pending ∧
    (s.edge c).us = s.us ∧
    (s.edge c).freeCount = s.freeCount ∧
    (s.edge c).settings = s.settings ∧
    (s.edge c).settled = s.settled ∧
    (s.edge c).exchange = s.exchange ∧
    (s.edge c).desk = s.desk ∧
    (s.edge c).grid = s.grid ∧
    (s.edge c).steer = s.steer ∧
    (s.edge c).load = s.load ∧
    (s.edge c).scan = s.scan ∧
    (s.edge c).selfLoad = s.selfLoad ∧
    (s.edge c).trace = s.trace := by
  unfold State.edge
  try dsimp only
  (repeat' split) <;> simp

/-- What `State.silence` leaves alone. -/
@[simp] theorem State.silence_frame (s : State) (c : Channel) :
    (s.silence c).pending = s.pending ∧
    (s.silence c).us = s.us ∧
    (s.silence c).freeCount = s.freeCount ∧
    (s.silence c).settings = s.settings ∧
    (s.silence c).settled = s.settled ∧
    (s.silence c).exchange = s.exchange ∧
    (s.silence c).desk = s.desk ∧
    (s.silence c).grid = s.grid ∧
    (s.silence c).steer = s.steer ∧
    (s.silence c).load = s.load ∧
    (s.silence c).scan = s.scan ∧
    (s.silence c).selfLoad = s.selfLoad ∧
    (s.silence c).trace = s.trace := by
  unfold State.silence
  try dsimp only
  (repeat' split) <;> simp

/-- What `State.expireSilence` leaves alone. -/
@[simp] theorem State.expireSilence_frame (s : State) (c : Channel) :
    (s.expireSilence c).pending = s.pending ∧
    (s.expireSilence c).us = s.us ∧
    (s.expireSilence c).freeCount = s.freeCount ∧
    (s.expireSilence c).settings = s.settings ∧
    (s.expireSilence c).settled = s.settled ∧
    (s.expireSilence c).exchange = s.exchange ∧
    (s.expireSilence c).desk = s.desk ∧
    (s.expireSilence c).grid = s.grid ∧
    (s.expireSilence c).steer = s.steer ∧
    (s.expireSilence c).load = s.load ∧
    (s.expireSilence c).scan = s.scan ∧
    (s.expireSilence c).selfLoad = s.selfLoad ∧
    (s.expireSilence c).trace = s.trace := by
  unfold State.expireSilence
  try dsimp only
  (repeat' split) <;> simp

/-- What `State.resetSpeed` leaves alone. -/
@[simp] theorem State.resetSpeed_frame (s : State) :
    (s.resetSpeed).pending = s.pending ∧
    (s.resetSpeed).us = s.us ∧
    (s.resetSpeed).freeCount = s.freeCount ∧
    (s.resetSpeed).settings = s.settings ∧
    (s.resetSpeed).settled = s.settled ∧
    (s.resetSpeed).exchange = s.exchange ∧
    (s.resetSpeed).desk = s.desk ∧
    (s.resetSpeed).grid = s.grid ∧
    (s.resetSpeed).steer = s.steer ∧
    (s.resetSpeed).load = s.load ∧
    (s.resetSpeed).scan = s.scan ∧
    (s.resetSpeed).selfLoad = s.selfLoad ∧
    (s.resetSpeed).trace = s.trace := by
  unfold State.resetSpeed
  try dsimp only
  simp

end Sys2Proof.Machine
end

