-- ==== Sys2Proof/Laws/FrameResets.lean ====
section
/-! SUPPORT. What each operation of Machine/Resets.lean leaves alone: every field of the State that it does not name
keeps its value. -/

namespace Sys2Proof.Machine

/-- What `State.resetWindow` leaves alone. -/
@[simp] theorem State.resetWindow_frame (s : State) (k : ResetKind) :
    (s.resetWindow k).pending = s.pending ∧
    (s.resetWindow k).us = s.us ∧
    (s.resetWindow k).freeCount = s.freeCount ∧
    (s.resetWindow k).ram = s.ram ∧
    (s.resetWindow k).settings = s.settings ∧
    (s.resetWindow k).settled = s.settled ∧
    (s.resetWindow k).exchange = s.exchange ∧
    (s.resetWindow k).desk = s.desk ∧
    (s.resetWindow k).faults = s.faults ∧
    (s.resetWindow k).rows = s.rows ∧
    (s.resetWindow k).drive = s.drive ∧
    (s.resetWindow k).grid = s.grid ∧
    (s.resetWindow k).steer = s.steer ∧
    (s.resetWindow k).load = s.load ∧
    (s.resetWindow k).link = s.link ∧
    (s.resetWindow k).scan = s.scan ∧
    (s.resetWindow k).speed = s.speed ∧
    (s.resetWindow k).supervision = s.supervision ∧
    (s.resetWindow k).selfLoad = s.selfLoad ∧
    (s.resetWindow k).trace = s.trace ∧
    (s.resetWindow k).timers = s.timers ∧
    (s.resetWindow k).published = s.published := by
  unfold State.resetWindow
  try dsimp only
  (repeat' split) <;> simp

/-- What `State.resetSlate` leaves alone. -/
@[simp] theorem State.resetSlate_frame (s : State) :
    (s.resetSlate).pending = s.pending ∧
    (s.resetSlate).us = s.us ∧
    (s.resetSlate).freeCount = s.freeCount ∧
    (s.resetSlate).ram = s.ram ∧
    (s.resetSlate).window = s.window ∧
    (s.resetSlate).settings = s.settings ∧
    (s.resetSlate).settled = s.settled ∧
    (s.resetSlate).desk = s.desk ∧
    (s.resetSlate).faults = s.faults ∧
    (s.resetSlate).rows = s.rows ∧
    (s.resetSlate).drive = s.drive ∧
    (s.resetSlate).grid = s.grid ∧
    (s.resetSlate).steer = s.steer ∧
    (s.resetSlate).load = s.load ∧
    (s.resetSlate).link = s.link ∧
    (s.resetSlate).scan = s.scan ∧
    (s.resetSlate).speed = s.speed ∧
    (s.resetSlate).supervision = s.supervision ∧
    (s.resetSlate).selfLoad = s.selfLoad ∧
    (s.resetSlate).trace = s.trace ∧
    (s.resetSlate).timers = s.timers ∧
    (s.resetSlate).published = s.published := by
  unfold State.resetSlate
  try dsimp only
  simp

/-- What `State.clearActive` leaves alone. -/
@[simp] theorem State.clearActive_frame (s : State) :
    (s.clearActive).pending = s.pending ∧
    (s.clearActive).us = s.us ∧
    (s.clearActive).freeCount = s.freeCount ∧
    (s.clearActive).window = s.window ∧
    (s.clearActive).settings = s.settings ∧
    (s.clearActive).settled = s.settled ∧
    (s.clearActive).exchange = s.exchange ∧
    (s.clearActive).desk = s.desk ∧
    (s.clearActive).rows = s.rows ∧
    (s.clearActive).drive = s.drive ∧
    (s.clearActive).grid = s.grid ∧
    (s.clearActive).steer = s.steer ∧
    (s.clearActive).load = s.load ∧
    (s.clearActive).link = s.link ∧
    (s.clearActive).scan = s.scan ∧
    (s.clearActive).speed = s.speed ∧
    (s.clearActive).supervision = s.supervision ∧
    (s.clearActive).selfLoad = s.selfLoad ∧
    (s.clearActive).trace = s.trace ∧
    (s.clearActive).timers = s.timers ∧
    (s.clearActive).published = s.published := by
  unfold State.clearActive
  exact ⟨State.foldl_keeps State.pending _ (by simp) _ _,
    State.foldl_keeps State.us _ (by simp) _ _,
    State.foldl_keeps State.freeCount _ (by simp) _ _,
    State.foldl_keeps State.window _ (by simp) _ _,
    State.foldl_keeps State.settings _ (by simp) _ _,
    State.foldl_keeps State.settled _ (by simp) _ _,
    State.foldl_keeps State.exchange _ (by simp) _ _,
    State.foldl_keeps State.desk _ (by simp) _ _,
    State.foldl_keeps State.rows _ (by simp) _ _,
    State.foldl_keeps State.drive _ (by simp) _ _,
    State.foldl_keeps State.grid _ (by simp) _ _,
    State.foldl_keeps State.steer _ (by simp) _ _,
    State.foldl_keeps State.load _ (by simp) _ _,
    State.foldl_keeps State.link _ (by simp) _ _,
    State.foldl_keeps State.scan _ (by simp) _ _,
    State.foldl_keeps State.speed _ (by simp) _ _,
    State.foldl_keeps State.supervision _ (by simp) _ _,
    State.foldl_keeps State.selfLoad _ (by simp) _ _,
    State.foldl_keeps State.trace _ (by simp) _ _,
    State.foldl_keeps State.timers _ (by simp) _ _,
    State.foldl_keeps State.published _ (by simp) _ _⟩

/-- What `State.resetTest` leaves alone. -/
@[simp] theorem State.resetTest_frame (s : State) (k : ResetKind) :
    (s.resetTest k).pending = s.pending ∧
    (s.resetTest k).us = s.us ∧
    (s.resetTest k).freeCount = s.freeCount ∧
    (s.resetTest k).settings = s.settings ∧
    (s.resetTest k).settled = s.settled ∧
    (s.resetTest k).exchange = s.exchange ∧
    (s.resetTest k).faults = s.faults ∧
    (s.resetTest k).rows = s.rows ∧
    (s.resetTest k).drive = s.drive ∧
    (s.resetTest k).grid = s.grid ∧
    (s.resetTest k).steer = s.steer ∧
    (s.resetTest k).load = s.load ∧
    (s.resetTest k).scan = s.scan ∧
    (s.resetTest k).speed = s.speed ∧
    (s.resetTest k).supervision = s.supervision ∧
    (s.resetTest k).trace = s.trace := by
  unfold State.resetTest
  try dsimp only
  (repeat' split) <;> simp

/-- What `State.abortOrders` leaves alone. -/
@[simp] theorem State.abortOrders_frame (s : State) :
    (s.abortOrders).pending = s.pending ∧
    (s.abortOrders).us = s.us ∧
    (s.abortOrders).freeCount = s.freeCount ∧
    (s.abortOrders).settings = s.settings ∧
    (s.abortOrders).settled = s.settled ∧
    (s.abortOrders).exchange = s.exchange ∧
    (s.abortOrders).faults = s.faults ∧
    (s.abortOrders).rows = s.rows ∧
    (s.abortOrders).drive = s.drive ∧
    (s.abortOrders).grid = s.grid ∧
    (s.abortOrders).steer = s.steer ∧
    (s.abortOrders).load = s.load ∧
    (s.abortOrders).link = s.link ∧
    (s.abortOrders).scan = s.scan ∧
    (s.abortOrders).speed = s.speed ∧
    (s.abortOrders).supervision = s.supervision ∧
    (s.abortOrders).selfLoad = s.selfLoad ∧
    (s.abortOrders).trace = s.trace ∧
    (s.abortOrders).timers = s.timers ∧
    (s.abortOrders).published = s.published := by
  unfold State.abortOrders State.abortHeld
  dsimp only
  (repeat' split) <;> simp

/-- What `State.resetDrive` leaves alone. -/
@[simp] theorem State.resetDrive_frame (s : State) :
    (s.resetDrive).pending = s.pending ∧
    (s.resetDrive).us = s.us ∧
    (s.resetDrive).freeCount = s.freeCount ∧
    (s.resetDrive).ram = s.ram ∧
    (s.resetDrive).settings = s.settings ∧
    (s.resetDrive).settled = s.settled ∧
    (s.resetDrive).exchange = s.exchange ∧
    (s.resetDrive).desk = s.desk ∧
    (s.resetDrive).faults = s.faults ∧
    (s.resetDrive).rows = s.rows ∧
    (s.resetDrive).grid = s.grid ∧
    (s.resetDrive).steer = s.steer ∧
    (s.resetDrive).load = s.load ∧
    (s.resetDrive).link = s.link ∧
    (s.resetDrive).scan = s.scan ∧
    (s.resetDrive).speed = s.speed ∧
    (s.resetDrive).supervision = s.supervision ∧
    (s.resetDrive).selfLoad = s.selfLoad ∧
    (s.resetDrive).trace = s.trace ∧
    (s.resetDrive).timers = s.timers ∧
    (s.resetDrive).published = s.published := by
  unfold State.resetDrive
  try dsimp only
  (repeat' split) <;> simp

/-- What `State.resetRows` leaves alone. -/
@[simp] theorem State.resetRows_frame (s : State) :
    (s.resetRows).pending = s.pending ∧
    (s.resetRows).us = s.us ∧
    (s.resetRows).freeCount = s.freeCount ∧
    (s.resetRows).ram = s.ram ∧
    (s.resetRows).window = s.window ∧
    (s.resetRows).settings = s.settings ∧
    (s.resetRows).settled = s.settled ∧
    (s.resetRows).exchange = s.exchange ∧
    (s.resetRows).desk = s.desk ∧
    (s.resetRows).faults = s.faults ∧
    (s.resetRows).drive = s.drive ∧
    (s.resetRows).grid = s.grid ∧
    (s.resetRows).steer = s.steer ∧
    (s.resetRows).load = s.load ∧
    (s.resetRows).link = s.link ∧
    (s.resetRows).scan = s.scan ∧
    (s.resetRows).speed = s.speed ∧
    (s.resetRows).supervision = s.supervision ∧
    (s.resetRows).selfLoad = s.selfLoad ∧
    (s.resetRows).trace = s.trace ∧
    (s.resetRows).timers = s.timers ∧
    (s.resetRows).published = s.published := by
  unfold State.resetRows
  try dsimp only
  simp

/-- What `State.resetGrid` leaves alone. -/
@[simp] theorem State.resetGrid_frame (s : State) :
    (s.resetGrid).pending = s.pending ∧
    (s.resetGrid).us = s.us ∧
    (s.resetGrid).freeCount = s.freeCount ∧
    (s.resetGrid).ram = s.ram ∧
    (s.resetGrid).window = s.window ∧
    (s.resetGrid).settings = s.settings ∧
    (s.resetGrid).settled = s.settled ∧
    (s.resetGrid).exchange = s.exchange ∧
    (s.resetGrid).desk = s.desk ∧
    (s.resetGrid).faults = s.faults ∧
    (s.resetGrid).rows = s.rows ∧
    (s.resetGrid).drive = s.drive ∧
    (s.resetGrid).steer = s.steer ∧
    (s.resetGrid).load = s.load ∧
    (s.resetGrid).link = s.link ∧
    (s.resetGrid).scan = s.scan ∧
    (s.resetGrid).speed = s.speed ∧
    (s.resetGrid).supervision = s.supervision ∧
    (s.resetGrid).selfLoad = s.selfLoad ∧
    (s.resetGrid).trace = s.trace ∧
    (s.resetGrid).timers = s.timers ∧
    (s.resetGrid).published = s.published := by
  unfold State.resetGrid
  try dsimp only
  simp

/-- What `State.resetSupervision` leaves alone. -/
@[simp] theorem State.resetSupervision_frame (s : State) (k : ResetKind) :
    (s.resetSupervision k).pending = s.pending ∧
    (s.resetSupervision k).us = s.us ∧
    (s.resetSupervision k).freeCount = s.freeCount ∧
    (s.resetSupervision k).settings = s.settings ∧
    (s.resetSupervision k).settled = s.settled ∧
    (s.resetSupervision k).exchange = s.exchange ∧
    (s.resetSupervision k).desk = s.desk ∧
    (s.resetSupervision k).grid = s.grid ∧
    (s.resetSupervision k).steer = s.steer ∧
    (s.resetSupervision k).load = s.load ∧
    (s.resetSupervision k).scan = s.scan ∧
    (s.resetSupervision k).speed = s.speed ∧
    (s.resetSupervision k).selfLoad = s.selfLoad ∧
    (s.resetSupervision k).trace = s.trace := by
  unfold State.resetSupervision
  try dsimp only
  (repeat' split) <;> simp

/-- What `State.resetTimers` leaves alone. -/
@[simp] theorem State.resetTimers_frame (s : State) :
    (s.resetTimers).pending = s.pending ∧
    (s.resetTimers).us = s.us ∧
    (s.resetTimers).freeCount = s.freeCount ∧
    (s.resetTimers).ram = s.ram ∧
    (s.resetTimers).window = s.window ∧
    (s.resetTimers).settings = s.settings ∧
    (s.resetTimers).settled = s.settled ∧
    (s.resetTimers).exchange = s.exchange ∧
    (s.resetTimers).desk = s.desk ∧
    (s.resetTimers).faults = s.faults ∧
    (s.resetTimers).rows = s.rows ∧
    (s.resetTimers).drive = s.drive ∧
    (s.resetTimers).grid = s.grid ∧
    (s.resetTimers).steer = s.steer ∧
    (s.resetTimers).load = s.load ∧
    (s.resetTimers).link = s.link ∧
    (s.resetTimers).scan = s.scan ∧
    (s.resetTimers).speed = s.speed ∧
    (s.resetTimers).supervision = s.supervision ∧
    (s.resetTimers).selfLoad = s.selfLoad ∧
    (s.resetTimers).trace = s.trace ∧
    (s.resetTimers).published = s.published := by
  unfold State.resetTimers
  simp

/-- What `State.resetPublications` leaves alone. -/
@[simp] theorem State.resetPublications_frame (s : State) :
    (s.resetPublications).pending = s.pending ∧
    (s.resetPublications).us = s.us ∧
    (s.resetPublications).freeCount = s.freeCount ∧
    (s.resetPublications).ram = s.ram ∧
    (s.resetPublications).window = s.window ∧
    (s.resetPublications).settings = s.settings ∧
    (s.resetPublications).settled = s.settled ∧
    (s.resetPublications).exchange = s.exchange ∧
    (s.resetPublications).desk = s.desk ∧
    (s.resetPublications).faults = s.faults ∧
    (s.resetPublications).rows = s.rows ∧
    (s.resetPublications).drive = s.drive ∧
    (s.resetPublications).grid = s.grid ∧
    (s.resetPublications).steer = s.steer ∧
    (s.resetPublications).load = s.load ∧
    (s.resetPublications).link = s.link ∧
    (s.resetPublications).scan = s.scan ∧
    (s.resetPublications).speed = s.speed ∧
    (s.resetPublications).supervision = s.supervision ∧
    (s.resetPublications).selfLoad = s.selfLoad ∧
    (s.resetPublications).trace = s.trace ∧
    (s.resetPublications).timers = s.timers := by
  unfold State.resetPublications
  try dsimp only
  simp

/-- What `State.resetLink` leaves alone. -/
@[simp] theorem State.resetLink_frame (s : State) (k : ResetKind) :
    (s.resetLink k).pending = s.pending ∧
    (s.resetLink k).us = s.us ∧
    (s.resetLink k).freeCount = s.freeCount ∧
    (s.resetLink k).ram = s.ram ∧
    (s.resetLink k).window = s.window ∧
    (s.resetLink k).settings = s.settings ∧
    (s.resetLink k).settled = s.settled ∧
    (s.resetLink k).exchange = s.exchange ∧
    (s.resetLink k).desk = s.desk ∧
    (s.resetLink k).faults = s.faults ∧
    (s.resetLink k).rows = s.rows ∧
    (s.resetLink k).drive = s.drive ∧
    (s.resetLink k).grid = s.grid ∧
    (s.resetLink k).steer = s.steer ∧
    (s.resetLink k).load = s.load ∧
    (s.resetLink k).scan = s.scan ∧
    (s.resetLink k).speed = s.speed ∧
    (s.resetLink k).supervision = s.supervision ∧
    (s.resetLink k).selfLoad = s.selfLoad ∧
    (s.resetLink k).trace = s.trace ∧
    (s.resetLink k).published = s.published := by
  unfold State.resetLink
  try dsimp only
  (repeat' split) <;> simp

/-- What `State.restart` leaves alone. -/
@[simp] theorem State.restart_frame (s : State) (k : ResetKind) :
    (s.restart k).pending = s.pending ∧
    (s.restart k).us = s.us ∧
    (s.restart k).freeCount = s.freeCount := by
  unfold State.restart
  try dsimp only
  simp

/-- What `State.softRestart` leaves alone. -/
@[simp] theorem State.softRestart_frame (s : State) :
    (s.softRestart).pending = s.pending ∧
    (s.softRestart).us = s.us ∧
    (s.softRestart).freeCount = s.freeCount := by
  unfold State.softRestart
  try dsimp only
  (repeat' split) <;> simp

/-- What `State.writeRegister` leaves alone. -/
@[simp] theorem State.writeRegister_frame (s : State) (offset : BitVec 3) (value : Word) :
    (s.writeRegister offset value).pending = s.pending ∧
    (s.writeRegister offset value).us = s.us ∧
    (s.writeRegister offset value).freeCount = s.freeCount := by
  unfold State.writeRegister
  try dsimp only
  (repeat' split) <;> simp

end Sys2Proof.Machine
end

