-- ==== Sys2Proof/Laws/Ram.lean ====
section
/-! SUPPORT. The laws of the Exchange RAM: what a word reads after a write of a run of words, and that a write keeps the
canonical form. -/

namespace Sys2Proof.Machine

/-! ## Reading after a write -/

/-- Keeping cells by a test of the address that an address passes keeps what is read there. -/
theorem Ram.read_filter (p : Nat → Bool) (b : Nat) (h : p b = true) :
    ∀ ram : List RamCell, Ram.read (ram.filter (fun c => p c.1)) b = Ram.read ram b
  | [] => rfl
  | (k, w) :: rest => by
    have ih := Ram.read_filter p b h rest
    by_cases hk : k = b
    · subst hk; simp [h, Ram.read]
    · by_cases hp : p k = true <;> simp [hp, Ram.read, hk, ih]

/-- No cell of a list names the address. -/
def Ram.misses (ram : List RamCell) (b : Nat) : Prop := ∀ c ∈ ram, c.1 ≠ b

/-- An address that no cell names reads 0. -/
theorem Ram.read_of_misses (b : Nat) : ∀ ram : List RamCell, Ram.misses ram b → Ram.read ram b = 0
  | [], _ => rfl
  | (k, w) :: rest, h => by
    have hk : k ≠ b := h (k, w) (by simp)
    simp [Ram.read, hk, Ram.read_of_misses b rest (fun c hc => h c (by simp [hc]))]

/-- Cells that miss an address can be left off in front. -/
theorem Ram.read_append_of_misses (b : Nat) (rest : List RamCell) :
    ∀ ram : List RamCell, Ram.misses ram b → Ram.read (ram ++ rest) b = Ram.read rest b
  | [], _ => rfl
  | (k, w) :: more, h => by
    have hk : k ≠ b := h (k, w) (by simp)
    simp [Ram.read, hk, Ram.read_append_of_misses b rest more (fun c hc => h c (by simp [hc]))]

/-- Cells that miss an address can be left off behind. -/
theorem Ram.read_append_misses (b : Nat) (rest : List RamCell) (h : Ram.misses rest b) :
    ∀ ram : List RamCell, Ram.read (ram ++ rest) b = Ram.read ram b
  | [] => by simp [Ram.read_of_misses b rest h, Ram.read]
  | (k, w) :: more => by
    by_cases hk : k = b <;> simp [Ram.read, hk, Ram.read_append_misses b rest h more]

/-- The cells of a run lie in the run and hold no 0. -/
theorem Ram.mem_cells : ∀ (ws : List Word) (a : Nat) (c : RamCell), c ∈ Ram.cells a ws →
    a ≤ c.1 ∧ c.1 < a + ws.length ∧ c.2 ≠ 0
  | [], _, _, h => by simp [Ram.cells] at h
  | w :: rest, a, c, h => by
    have ih := Ram.mem_cells rest (a + 1) c
    unfold Ram.cells at h
    split at h
    · obtain ⟨h1, h2, h3⟩ := ih h
      exact ⟨by omega, by simp; omega, h3⟩
    · rcases List.mem_cons.mp h with rfl | h
      · exact ⟨by simp, by simp, by assumption⟩
      · obtain ⟨h1, h2, h3⟩ := ih h
        exact ⟨by omega, by simp; omega, h3⟩

/-- The cells of a run read as the run. -/
theorem Ram.read_cells : ∀ (ws : List Word) (a b : Nat), a ≤ b → b < a + ws.length →
    Ram.read (Ram.cells a ws) b = ws.getD (b - a) 0
  | [], _, _, h1, h2 => by simp at h2; omega
  | w :: rest, a, b, h1, h2 => by
    have h2' : b < a + 1 + rest.length := by simp at h2; omega
    by_cases hab : a = b
    · subst hab
      unfold Ram.cells
      split
      · rename_i hw
        have : Ram.misses (Ram.cells (a + 1) rest) a := fun c hc => by
          have := (Ram.mem_cells rest (a + 1) c hc).1; omega
        simp [Ram.read_of_misses _ _ this, hw]
      · simp [Ram.read]
    · have ih := Ram.read_cells rest (a + 1) b (by omega) h2'
      have hsub : b - a = (b - (a + 1)) + 1 := by omega
      unfold Ram.cells
      split
      · rw [ih, hsub]; simp
      · simp only [Ram.read, hab, if_false]; rw [ih, hsub]; simp

/-- What every word reads after a write of a run: the run's words where it lies in the RAM, every other word as before. -/
theorem Ram.read_writeBlock (ram : List RamCell) (a b : Nat) (ws : List Word) :
    Ram.read (Ram.writeBlock ram a ws) b =
      if a ≤ b ∧ b < a + ws.length then (if b < ramWords then ws.getD (b - a) 0 else 0) else Ram.read ram b := by
  unfold Ram.writeBlock
  have mid : ∀ c ∈ (Ram.cells a ws).filter (fun c => c.1 < ramWords), a ≤ c.1 ∧ c.1 < a + ws.length ∧ c.1 < ramWords :=
    fun c hc => by
      simp at hc
      exact ⟨(Ram.mem_cells ws a c hc.1).1, (Ram.mem_cells ws a c hc.1).2.1, hc.2⟩
  by_cases h1 : b < a
  · rw [if_neg (by omega), List.append_assoc, Ram.read_append_misses b _ _ _]
    · exact Ram.read_filter (fun k => k < a) b (by simpa using h1) ram
    · intro c hc
      rcases List.mem_append.mp hc with hc | hc
      · have := (mid c hc).1; omega
      · simp at hc; omega
  · have front : Ram.misses (ram.filter (fun c => c.1 < a)) b := fun c hc => by simp at hc; omega
    rw [List.append_assoc, Ram.read_append_of_misses b _ _ front]
    by_cases h2 : b < a + ws.length
    · rw [if_pos (by omega), Ram.read_append_misses b _ _ _]
      · by_cases h3 : b < ramWords
        · rw [if_pos h3, Ram.read_filter (fun k => k < ramWords) b (by simpa using h3),
            Ram.read_cells ws a b (by omega) h2]
        · rw [if_neg h3]
          exact Ram.read_of_misses b _ (fun c hc => by have := (mid c hc).2.2; omega)
      · intro c hc; simp at hc; omega
    · rw [if_neg (by omega), Ram.read_append_of_misses b _ _ (fun c hc => by have := (mid c hc).2.1; omega)]
      exact Ram.read_filter (fun k => a + ws.length ≤ k) b (by simpa using h2) ram

/-! ## The canonical form -/

/-- A lower bound can be lowered. -/
theorem Ram.rises_mono {a b : Nat} (h : a ≤ b) : ∀ ram : List RamCell, Ram.rises (some b) ram = true →
    Ram.rises (some a) ram = true
  | [], _ => rfl
  | c :: rest, hr => by
    simp [Ram.rises] at hr ⊢
    exact ⟨by omega, hr.2⟩

/-- Dropping cells keeps the order. -/
theorem Ram.rises_filter (p : RamCell → Bool) : ∀ (ram : List RamCell) (a : Option Nat), Ram.rises a ram = true →
    Ram.rises a (ram.filter p) = true
  | [], a, _ => by simp [Ram.rises]
  | c :: rest, a, h => by
    have ht : Ram.rises (some c.1) rest = true := by cases a <;> simp [Ram.rises] at h <;> simp [h]
    by_cases hp : p c = true
    · have ih := Ram.rises_filter p rest (some c.1) ht
      cases a <;> simp [Ram.rises, hp] at h ⊢ <;> simp [h, ih]
    · rw [List.filter_cons_of_neg hp]
      cases a with
      | none =>
        have ih := Ram.rises_filter p rest (some c.1) ht
        revert ih
        cases rest.filter p with
        | nil => simp [Ram.rises]
        | cons d more => simp [Ram.rises]
      | some a =>
        simp [Ram.rises] at h
        exact Ram.rises_filter p rest (some a) (Ram.rises_mono (by omega) rest h.2)

/-- Two rising lists, the first wholly below the second, rise together. -/
theorem Ram.rises_append (m : Nat) (xs : List RamCell) : ∀ (ram : List RamCell) (a : Option Nat),
    Ram.rises a ram = true → (∀ c ∈ ram, c.1 < m) → (∀ c ∈ xs, m ≤ c.1) → Ram.rises none xs = true →
    (∀ k, a = some k → k < m) → Ram.rises a (ram ++ xs) = true
  | [], a, _, _, hx, hr, ha => by
    cases a with
    | none => simpa using hr
    | some k =>
      cases xs with
      | nil => simp [Ram.rises]
      | cons d more =>
        have := ha k rfl
        have := hx d (by simp)
        simp [Ram.rises] at hr ⊢
        exact ⟨by omega, hr⟩
  | c :: rest, a, h, hm, hx, hr, _ => by
    have ht : Ram.rises (some c.1) rest = true := by cases a <;> simp [Ram.rises] at h <;> simp [h]
    have ih := Ram.rises_append m xs rest (some c.1) ht (fun d hd => hm d (by simp [hd])) hx hr
      (fun k hk => by cases hk; exact hm c (by simp))
    cases a <;> simp [Ram.rises] at h ⊢ <;> simp [h, ih]

/-- The cells of a run rise. -/
theorem Ram.rises_cells : ∀ (ws : List Word) (a : Nat), Ram.rises none (Ram.cells a ws) = true
  | [], _ => rfl
  | w :: rest, a => by
    have ih := Ram.rises_cells rest (a + 1)
    unfold Ram.cells
    split
    · exact ih
    · have hm := Ram.mem_cells rest (a + 1)
      revert ih hm
      cases Ram.cells (a + 1) rest with
      | nil => simp [Ram.rises]
      | cons d more =>
        intro ih hm
        have := (hm d (by simp)).1
        simp [Ram.rises] at ih ⊢
        exact ⟨by omega, ih⟩

/-- A write of a run of words keeps the canonical form. -/
theorem Ram.wf_writeBlock (ram : List RamCell) (a : Nat) (ws : List Word) (h : Ram.wf ram = true) :
    Ram.wf (Ram.writeBlock ram a ws) = true := by
  simp only [Ram.wf, Bool.and_eq_true, List.all_eq_true, decide_eq_true_eq] at h ⊢
  obtain ⟨hr, hall⟩ := h
  unfold Ram.writeBlock
  have mid : ∀ c ∈ (Ram.cells a ws).filter (fun c => c.1 < ramWords), a ≤ c.1 ∧ c.1 < a + ws.length ∧ c.1 < ramWords ∧ c.2 ≠ 0 :=
    fun c hc => by
      simp at hc
      exact ⟨(Ram.mem_cells ws a c hc.1).1, (Ram.mem_cells ws a c hc.1).2.1, hc.2, (Ram.mem_cells ws a c hc.1).2.2⟩
  constructor
  · apply Ram.rises_append (a + ws.length) _ _ none
    · exact Ram.rises_append a _ _ none (Ram.rises_filter _ ram none hr) (fun c hc => by simp at hc; exact hc.2)
        (fun c hc => (mid c hc).1) (Ram.rises_filter _ _ none (Ram.rises_cells ws a)) (by simp)
    · intro c hc
      rcases List.mem_append.mp hc with hc | hc
      · simp at hc; omega
      · exact (mid c hc).2.1
    · intro c hc; simp at hc; exact hc.2
    · exact Ram.rises_filter _ ram none hr
    · simp
  · intro c hc
    rcases List.mem_append.mp hc with hc | hc
    · rcases List.mem_append.mp hc with hc | hc
      · exact hall c (List.mem_filter.mp hc).1
      · simpa using (mid c hc).2.2
    · exact hall c (List.mem_filter.mp hc).1

/-! ## The words of the state -/

/-- What every word reads after the part has written a run of words. -/
theorem State.readWord_writeWords (s : State) (a b : Nat) (ws : List Word) :
    (s.writeWords a ws).readWord b =
      if a ≤ b ∧ b < a + ws.length then (if b < ramWords then ws.getD (b - a) 0 else 0) else s.readWord b :=
  Ram.read_writeBlock s.ram a b ws

/-- A write leaves every word outside its run alone. -/
theorem State.readWord_writeWords_outside (s : State) (a b : Nat) (ws : List Word) (h : b < a ∨ a + ws.length ≤ b) :
    (s.writeWords a ws).readWord b = s.readWord b := by
  rw [State.readWord_writeWords, if_neg (by omega)]

/-- The part's read of a run is the read of each word. -/
theorem State.readWords_eq (s : State) (a n : Nat) : s.readWords a n = (List.range n).map (fun k => s.readWord (a + k)) := by
  unfold State.readWords State.readWord
  apply List.map_congr_left
  intro k hk
  have hk := List.mem_range.mp hk
  exact Ram.read_filter (fun b => a ≤ b && b < a + n) (a + k) (by simp; omega) s.ram

/-- A run of words that lies in the RAM reads back as it was written. -/
theorem State.readWords_writeWords (s : State) (a : Nat) (ws : List Word) (h : a + ws.length ≤ ramWords) :
    (s.writeWords a ws).readWords a ws.length = ws := by
  rw [State.readWords_eq]
  apply List.ext_getElem
  · simp
  · intro k h1 h2
    simp only [List.getElem_map, List.getElem_range]
    rw [State.readWord_writeWords, if_pos (by omega), if_pos (by omega)]
    simp [h2]

/-- The RAM that a power-on reset leaves is in the canonical form. -/
theorem Ram.wf_reset : Ram.wf State.reset.ram = true := by decide

end Sys2Proof.Machine
end

