-- ==== Sys2Proof/Laws/Ops.lean ====
section
/-! SUPPORT. What each shared operation of Machine/Ops.lean can do, said once: the writes of the Limit Table, the changes of the
Drive Mode, the trip, the reports of faults, the order completion, and that each keeps the RAM's canonical form. -/

namespace Sys2Proof.Machine

/-! ## The Limit Table (R15) -/

/-- R15: outside UNCONFIGURED the written row holds what its record's write gives. -/
theorem State.writeRow_row (s : State) (r : RowId) (active : Bool) (value : Option Int) (h : s.drive.mode ≠ .unconfigured) :
    (s.writeRow r active value).row r = (s.row r).write s.now r.quantity active value := by
  simp [State.writeRow, h, State.row]

/-- R15: a write of one row leaves every other row alone. -/
theorem State.writeRow_row_of_ne (s : State) (r q : RowId) (active : Bool) (value : Option Int) (h : r.index ≠ q.index) :
    (s.writeRow r active value).row q = s.row q := by
  unfold State.writeRow
  split
  · rfl
  · have h' : r.index.val ≠ q.index.val := fun e => h (Fin.ext e)
    simp [State.row, h']

/-- R15: in UNCONFIGURED the table takes no owner writes. -/
theorem State.writeRow_unconfigured (s : State) (r : RowId) (active : Bool) (value : Option Int)
    (h : s.drive.mode = .unconfigured) : s.writeRow r active value = s := by
  simp [State.writeRow, h]

/-! ## The Drive Mode (R4, R11) -/

/-- A write of row 2 leaves the Drive Governor's record alone. -/
theorem State.writeZoneRow_drive (s : State) : s.writeZoneRow.drive = s.drive := by simp

/-- R4: after a change the Mode is the one asked for. -/
theorem State.changeMode_mode (s : State) (m : Mode) : (s.changeMode m).drive.mode = m := by
  unfold State.changeMode
  dsimp only
  split
  · assumption
  · (repeat' split) <;> simp

/-- R4: where the Mode stays as it was nothing happens. -/
theorem State.changeMode_same (s : State) : s.changeMode s.drive.mode = s := by simp [State.changeMode]

/-- R37: the entries that zero the torque leave Mode alone. -/
theorem State.zeroTorque_mode (s : State) : s.zeroTorque.drive.mode = s.drive.mode := by
  simp [State.zeroTorque]

/-- R144: the asking for a HALT leaves the Drive Governor's record alone. -/
theorem State.requestHalt_drive (s : State) : s.requestHalt.drive = s.drive := by simp

/-- R11: in ARMED or FALLBACK a trip takes Mode to TRIPPED and writes its cause. -/
theorem State.trip_driving (s : State) (c : FaultCode) (h : s.drive.mode = .armed ∨ s.drive.mode = .fallback) :
    (s.trip c).drive.mode = .tripped ∧ (s.trip c).drive.tripCause = some c := by
  simp [State.trip, h, State.zeroTorque_mode, State.changeMode_mode]

/-- R11: in every other mode a trip changes nothing. -/
theorem State.trip_otherwise (s : State) (c : FaultCode) (h : ¬(s.drive.mode = .armed ∨ s.drive.mode = .fallback)) :
    s.trip c = s := if_neg h

/-! ## The Fault Table (R194) -/

/-- The written record reads back. -/
theorem State.putFault_fault (s : State) (c : FaultCode) (r : FaultRecord) : (s.putFault c r).fault c = r := by
  simp [State.putFault, State.fault]

/-- A write of one record leaves every other record alone. -/
theorem State.putFault_fault_of_ne (s : State) (c d : FaultCode) (r : FaultRecord) (h : c.index ≠ d.index) :
    (s.putFault c r).fault d = s.fault d := by
  have h' : c.index.val ≠ d.index.val := fun e => h (Fin.ext e)
  simp [State.putFault, State.fault, h']

/-- R194: a report of a condition absent leaves the record with Active clear and nothing else changed. -/
theorem State.reportAbsent_fault (s : State) (c : FaultCode) :
    (s.reportAbsent c).fault c = { s.fault c with active := false } := by
  unfold State.reportAbsent
  dsimp only
  split
  · rw [State.putFault_fault]
  · cases h : s.fault c with
    | mk a => simp_all

/-- R194: a report of a condition present that was absent raises the record. -/
theorem State.reportPresent_fault (s : State) (c : FaultCode) (detail : Nat) (h : (s.fault c).active = false) :
    (s.reportPresent c detail).fault c = (s.fault c).raised s.now detail := by
  have e : ∀ t : State, t.faults = (s.putFault c ((s.fault c).raised s.now detail)).faults →
      t.fault c = (s.fault c).raised s.now detail := by
    intro t ht
    rw [← State.putFault_fault s c ((s.fault c).raised s.now detail), State.fault, State.fault, ht]
  unfold State.reportPresent
  dsimp only
  simp only [h]
  apply e
  split
  · simp at *
  · split <;> simp

/-! ## The canonical form of the RAM -/

/-- A write of a run of words keeps the canonical form. -/
theorem State.writeWords_wf (s : State) (a : Nat) (ws : List Word) (h : Ram.wf s.ram = true) :
    Ram.wf (s.writeWords a ws).ram = true := by
  simpa [State.writeWords] using Ram.wf_writeBlock s.ram a ws h

/-- The truck controller's writes keep the canonical form. -/
theorem State.controllerWrite_wf (s : State) (a : BitVec 14) (w : Word) (h : Ram.wf s.ram = true) :
    Ram.wf (s.controllerWrite a w).ram = true := State.writeWords_wf s a.toNat [w] h

/-- A write of a fault record keeps the canonical form. -/
theorem State.putFault_wf (s : State) (c : FaultCode) (r : FaultRecord) (h : Ram.wf s.ram = true) :
    Ram.wf (s.putFault c r).ram = true := by
  unfold State.putFault
  exact State.writeWords_wf _ _ _ (by simpa using h)

/-- A trip writes nothing in the RAM. -/
theorem State.trip_ram (s : State) (c : FaultCode) : (s.trip c).ram = s.ram := by simp

/-- A report of a condition present keeps the canonical form. -/
theorem State.reportPresent_wf (s : State) (c : FaultCode) (detail : Nat) (h : Ram.wf s.ram = true) :
    Ram.wf (s.reportPresent c detail).ram = true := by
  unfold State.reportPresent
  dsimp only
  (repeat' split) <;> (try simp only [State.trip_ram, State.raiseCause_frame]) <;>
    first | exact h | exact State.putFault_wf _ _ _ h

/-- A report of a condition absent keeps the canonical form. -/
theorem State.reportAbsent_wf (s : State) (c : FaultCode) (h : Ram.wf s.ram = true) :
    Ram.wf (s.reportAbsent c).ram = true := by
  unfold State.reportAbsent
  dsimp only
  split
  · exact State.putFault_wf _ _ _ h
  · exact h

/-- A report keeps the canonical form. -/
theorem State.report_wf (s : State) (c : FaultCode) (present : Bool) (detail : Nat) (h : Ram.wf s.ram = true) :
    Ram.wf (s.report c present detail).ram = true := by
  unfold State.report
  split
  · exact State.reportPresent_wf s c detail h
  · exact State.reportAbsent_wf s c h

/-- A latching keeps the canonical form. -/
theorem State.latchFault_wf (s : State) (c : FaultCode) (detail : Nat) (h : Ram.wf s.ram = true) :
    Ram.wf (s.latchFault c detail).ram = true :=
  State.reportAbsent_wf _ c (State.reportPresent_wf s c detail h)

/-- A completion keeps the canonical form. -/
theorem State.complete_wf (s : State) (slot : Fin 16) (r : Result) (detail : List Word) (h : Ram.wf s.ram = true) :
    Ram.wf (s.complete slot r detail).ram = true := by
  unfold State.complete
  simp only [State.raiseCause_frame]
  exact State.writeWords_wf _ _ _ (State.writeWords_wf _ _ _ h)

/-- The taking of an order keeps the canonical form. -/
theorem State.takeOrder_wf (s : State) (slot : Fin 16) (h : Ram.wf s.ram = true) :
    Ram.wf (s.takeOrder slot).1.ram = true := State.writeWords_wf s _ _ h

end Sys2Proof.Machine
end

