-- ==== Sys2Proof/Laws/Specs.lean ====
section
/-! SUPPORT. What two shared operations answer, in the words of Sys2Proof/Safety.lean: the reader of a reply's fields and the
computation of the Derates with P_avail. -/

namespace Sys2Proof.Machine

/-- R127: the two readings of a signed field of two characters agree. -/
theorem signedField_eq (low high : BitVec 8) : signedField low high = signedChars low high := by
  have hl := low.isLt
  have hh := high.isLt
  have e : (BitVec.append high low).toNat = high.toNat * 256 + low.toNat := by
    change (high ++ low).toNat = _
    rw [BitVec.toNat_append, ← Nat.shiftLeft_add_eq_or_of_lt hl, Nat.shiftLeft_eq]
  unfold signedField signedChars
  rw [BitVec.toInt_eq_toNat_cond, e]
  split <;> split <;> omega

/-- R127: the reply read off a station's characters carries their fields. -/
theorem readReply_carries (n : StationId) (data : List (BitVec 8)) : replyCarries n data (readReply n data) := by
  cases n <;> simp [replyCarries, readReply, signedField_eq, dataBit]

/-- A clamp lies in its range. -/
theorem clamp_mem {lo hi : Int} (h : lo ≤ hi) (x : Int) : lo ≤ clamp lo hi x ∧ clamp lo hi x ≤ hi := by
  unfold clamp
  omega

/-- R62: the P_avail computed is that of the Derates computed with it. -/
theorem State.computePower_powerFollows (s : State) : powerFollows s s.computePower := rfl

/-- R61: the Derates computed are those of the banks' Stage and θ. -/
theorem State.computePower_derateFollows (s : State) (k : BankId) : derateFollows s s.computePower k := by
  have e : (s.computePower.bank k).derate = s.derateOf k ∧ (s.computePower.bank k).stage = (s.bank k).stage ∧
      (s.computePower.bank k).theta = (s.bank k).theta := by
    cases k <;> exact ⟨rfl, rfl, rfl⟩
  obtain ⟨h1, h2, h3⟩ := e
  unfold derateFollows
  rw [h1, h2, h3]
  unfold State.derateOf
  dsimp only
  refine ⟨_, rfl, fun h => ?_, fun h l => ?_, fun h l => ?_, fun h => ?_⟩
  · rw [h]
  · rw [h]; simp [deratedShare, l]
  · rw [h]; simp only [deratedShare, if_neg (Int.not_lt.mpr l)]; exact clamp_mem (by decide) _
  · rcases h with h | h | h <;> rw [h]

end Sys2Proof.Machine
end

