-- ==== Sys2Proof/WellFormed.lean ====
section
/-! DEFINITION. Which commands the outside can form (R152, R184). A command outside this set stands for no bus write
and no event of the manual; `exec` still answers for it. -/

namespace Sys2Proof

/-- R152: the numbers of conversions a Scan List entry may name. -/
def averagingCounts : List Nat := [1, 2, 4, 8, 16, 32, 64]

/-- A command is well formed when its row can name its operands:
R184's ignored writes are those to offsets 0, 1, 2, 5, 6 and 7 (3 is ATTN and 4 is ATTNEN, rows of their own);
R152's strobe takes one of the averaging counts of conversions. -/
def Instr.wellFormed : Instr → Bool
  | .powerOnReset => true
  | .boardReset => true
  | .softRestart => true
  | .attnWrite _ => true
  | .attnenWrite _ => true
  | .registerWriteIgnored offset _ => !(offset == 3#3) && !(offset == 4#3)
  | .slatePickUp => true
  | .boardSweep => true
  | .applySettings _ => true
  | .applySettingsCompletion => true
  | .armDrive _ => true
  | .disarmDrive _ => true
  | .clearFallback _ => true
  | .clearFault _ => true
  | .resetLockout _ => true
  | .startSelfLoad _ => true
  | .stopSelfLoad _ => true
  | .tareLoad _ => true
  | .tareLoadCompletion => true
  | .governorFrame => true
  | .dcLinkFrame => true
  | .thermalFrame => true
  | .steeringFrame => true
  | .strobe => true
  | .strobeCompletion conversions => averagingCounts.contains conversions.length
  | .speedEdge _ => true
  | .silenceEvent _ => true
  | .longWindowExpiry => true
  | .wMinExpiry => true
  | .wMaxExpiry => true
  | .fallbackDecayStep => true
  | .exchangeStart => true
  | .echoCheck => true
  | .replyTimerExpiry => true
  | .characterReceived _ => true
  | .assemblerDrain => true
  | .frameEnd => true
  | .muteEnd => true
  | .lineStuckDetected => true
  | .lineStuckCleared => true
  | .haltStart => true
  | .haltEnd => true
  | .phaseEnd => true
  | .stepEnd => true
  | .assemblerHoldEnd => true

end Sys2Proof
end

