-- ==== Sys2Proof/Tests/Slice0.lean ====
section
/-! SUPPORT. Tests of the model on the manual's worked examples, the refusals of the well-formedness checks, and a witness for the
hypotheses of each statement. -/

namespace Sys2Proof.Tests

open Sys2Proof Sys2Proof.Machine

/-! ## States the tests start from -/

/-- The state after a command. -/
def after (c : Instr) (s : State) : State :=
  match exec c s with
  | .next t => t
  | .fault _ => s
  | .refused _ => s

/-- A VALID sample. -/
def validSample (v : Int) : Sample := { state := .valid, value := v, lastRead := v, outCause := none }

/-- A station that is PRESENT with a reply. -/
def presentStation (r : Reply) : Station :=
  { Station.initial with state := .present, counter := 59, goodRun := 3, lastGood := some r, lastAccepted := some 0 }

/-- A configured part at rest with the defaults: DISARMED, every station PRESENT, the sensors VALID, the controller healthy. -/
def parked : State :=
  { State.reset with
    us := 5000000
    settings := some defaultSettings
    settled := some defaultSettings
    drive := { State.reset.drive with mode := .disarmed }
    exchange := { State.reset.exchange with slate := { Slate.zero with parkApplied := true } }
    link := { Link.initial with
      stations := #v[presentStation (.torque { torque := 0, rpm := 0, winding := 100, fault := false, derated := false, ready := true }),
        presentStation (.torque { torque := 0, rpm := 0, winding := 100, fault := false, derated := false, ready := true }),
        presentStation (.chopper { blowerA := true, blowerB := true, faultA := false, faultB := false, ready := true }),
        presentStation (.valve { spool := 0, fault := false, pump := true })] }
    scan := { Scan.initial with table := Vector.replicate 14 (validSample 150) }
    grid := { Grid.initial with
      bankA := { Bank.initial with stage := .ready, derate := 1000, modelRunning := true, theta := 5800, blowerRunning := true }
      bankB := { Bank.initial with stage := .derated, derate := 604, modelRunning := true, theta := 6200, blowerRunning := true } }
    steer := { Steer.initial with state := .normal, first := false }
    load := { Load.initial with acting := true, afterReset := false }
    supervision := { Supervision.initial with running := true, goodCount := 3, window := .validZone }
    timers := { Timers.initial with steering := some 5005000, strobe := some 5000100, dcLink := some 5000500 } }

/-- The part in ARMED, rolling forward at 28.0 km/h. -/
def driving : State :=
  { parked with
    drive := { parked.drive with mode := .armed, held := .forward }
    speed := { parked.speed with v := 280 }
    exchange := { parked.exchange with slate := { Slate.zero with direction := .forward, propel := 500 } } }

/-- A slot holding a POSTED order. -/
def posting (s : State) (slot : Fin 16) (kind : Word) (args : List Word) : State :=
  s.writeWords (slotBase slot) ([1, 7, kind] ++ args)

/-- A row of the Limit Table made active at a Value. -/
def withRow (s : State) (r : RowId) (v : Int) : State :=
  { s with rows := s.rows.set r.index { active := true, value := v, since := 0, changes := 0 } }

/-- A role given a VALID value. -/
def withRole (s : State) (r : Role) (v : Int) : State :=
  { s with scan := { s.scan with table := s.scan.table.set r.index (validSample v) } }

/-- A channel RUNNING at a speed. -/
def runningAt (v : Nat) : ChannelRecord :=
  { state := .running, lastEdge := some 4990000, periods := [12800, 12900, 12850], speed := v, glitches := 0 }

/-- A fault record that is Active and Latched. -/
def raised : FaultRecord := { active := true, latched := true, count := 1, firstTime := 0, lastTime := 0, detail := 0 }

/-- A fault record that is Latched only. -/
def latchedOnly : FaultRecord := { raised with active := false }

/-- A record of the Fault Table replaced. -/
def withFault (s : State) (c : FaultCode) (x : FaultRecord) : State := { s with faults := s.faults.set c.index x }

/-- The loaded descent of 1.6 and 2.11 as frame F1 starts. -/
def descending : State :=
  let s := { driving with
    exchange := { driving.exchange with slate := { Slate.zero with direction := .forward } }
    speed := { channels := #v[runningAt 280, runningAt 280, runningAt 272, runningAt 240], v := 280, mark := .frontBoth }
    drive := { driving.drive with integrator := 300, qL := -310, qR := -310 } }
  let s := withRow (withRow (withRow s .zoneSpeed 300) .descentSpeed 264) .curveSpeed 420
  withRow (withRow s .motorPropelLeft 850) .gridCapacity 329

/-- The part in FALLBACK with row 7 decaying. -/
def fallen : State :=
  withRow
    { driving with
      drive := { driving.drive with mode := .fallback }
      supervision := { driving.supervision with decayRunning := true, failureCount := 2, window := .longWindow }
      timers := { driving.timers with decay := some 5000000 } }
    .fallbackSpeed 264

/-- The part in TRIPPED by STATION 2 LOST, whose record is Latched. -/
def tripped : State :=
  withFault { parked with drive := { parked.drive with mode := .tripped, tripCause := some .station2Lost } } .station2Lost
    latchedOnly

/-- The test of 10.8 in step 3 of its stair: level 500. -/
def stairTest : State :=
  { parked with
    drive := { parked.drive with mode := .selfLoad }
    desk := { parked.desk with start := some { slot := 4, words := [7, 7, 0x0200, 4, 12000, 60000, 3000, 5000] } }
    selfLoad := { SelfLoad.initial with
      phase := .body, bodyLength := 52000, stepIndex := 3, stepLevel := 500, stepsRun := 4, stepOpen := true
      pattern := { shape := .stair, count := 4, stepDuration := 12000, totalDuration := 60000, leadIn := 3000, leadOut := 5000
                   selectA := true, selectB := true }
      header := { testState := .running, abortCause := none, stepsRun := 4, recorded := 3, unrecorded := 0 } } }

/-- An exchange with a station whose reply window is open. -/
def waiting (n : StationId) (counter : Nat) : ExchangeInProgress :=
  { station := n, counter := counter, toSend := [], windowOpen := true, gotFirst := false, stray := false, judged := none
    endsAfter := none }

/-- A character without an error flag. -/
def plain (mark : Bool) (n : Nat) : RxChar :=
  { data := BitVec.ofNat 8 n, noise := false, framing := false, parity := false, mark := mark }

/-- A character as it stands on the line, its parity bit odd as R126 asks. -/
def lineChar (mark : Bool) (n : Nat) : LineChar := ({ data := BitVec.ofNat 8 n, mark := mark } : TxChar).onLine

/-- A conversion with every input at the least voltage that a 5 V range reads as a code. -/
def volts (code : Int) : Conversion := Vector.replicate 16 ((code * 5000000 + 16383) / 16384)

/-- The inverter's answer of 7.10. -/
def inverterReply : List RxChar := plain true 145 :: [185, 254, 22, 3, 186, 4, 60, 165].map (plain false)

/-- The part in ARMED, the whole reply of 7.10 assembled. -/
def answered : State :=
  { driving with link := { driving.link with
    exchange := some { waiting .inverterL 60 with gotFirst := true }, frame := { Frame.empty with chars := inverterReply } } }

/-! ## Well-formedness (R152, R184) -/

theorem test_wellFormed_refuses_attn_as_ignored_write : (Instr.registerWriteIgnored 3 5).wellFormed = false := by decide
theorem test_wellFormed_refuses_attnen_as_ignored_write : (Instr.registerWriteIgnored 4 5).wellFormed = false := by decide
theorem test_wellFormed_refuses_three_conversions :
    (Instr.strobeCompletion (List.replicate 3 (volts 1))).wellFormed = false := by decide
theorem test_wellFormed_takes_four_conversions :
    (Instr.strobeCompletion (List.replicate 4 (volts 1))).wellFormed = true := by decide

/-- No row of the table gives bits, so no word spells a command. -/
theorem test_no_word_spells_a_command : decodeTableWord 16 0x0005 = none := by decide

/-! ## Worked computations of the manual -/

/-- 2.11, stage 2: I 300 and S 332. -/
theorem test_overspeed_controller : overspeedControl 16 8 280 264 300 329 = (300, 332) := by decide

/-- 2.13: the outer wheel in a bend slips by 8. -/
theorem test_slip_in_a_bend :
    (wheelStages defaultSettings.governing false 500 0 1000 1000 100 1142 115 1000 400).slip = 8 := by decide

/-- 2.12, F2: the ramp holds the change to 20. -/
theorem test_ramp_holds_the_change :
    (wheelStages defaultSettings.governing false 0 332 1000 329 280 1000 236 900 (-296)).q = -276 := by decide

/-- 3.6: the four lines of the worked distribution. -/
theorem test_distribution :
    [1200, 1401, 1604, 3].map (fun d => distribute d parked.grid.bankA parked.grid.bankB) =
      [(600, 600), (797, 604), (1000, 604), (2, 1)] := by decide

/-- 5.3: Max Angle 2000 and Rate 2100 at v = 250. -/
theorem test_steering_lookup :
    interpolate defaultSettings.steer.maxAngleTable 250 = 2000 ∧ interpolate defaultSettings.steer.rateTable 250 = 2100 := by
  decide

/-- 5.7: the two curve tables at 1200. -/
theorem test_curve_tables :
    interpolate defaultSettings.steer.emptyCurve 1200 = 344 ∧ interpolate defaultSettings.steer.loadedCurve 1200 = 242 := by
  decide

/-- 6.6: the caps of a warm motor at 1460 and 1700. -/
theorem test_temperature_caps :
    temperatureCap 1400 1800 1460 = 850 ∧ temperatureCap 1400 1800 1700 = 250 ∧ temperatureCap 1600 1800 1700 = 500 := by
  decide

/-- 7.10: the torque command of −329 with counter 60. -/
theorem test_torque_command :
    (commandFrame { Outgoing.initial with left := { torque := -329, enable := true, reverse := false } } .inverterL 60).map
      (fun c => (c.data.toNat, c.mark)) =
      [(17, true), (183, false), (254, false), (1, false), (60, false), (253, false)] := by decide

/-- 7.10: the reply is GOOD and its fields. -/
theorem test_torque_reply :
    ({ Frame.empty with chars := inverterReply } : Frame).judge .inverterL 60 false = none ∧
    readReply .inverterL (inverterReply.map (fun c => c.data)) =
      .torque { torque := -327, rpm := 790, winding := 186, fault := false, derated := false, ready := true } := by decide

/-- 10.9: the truncated cycle's step 3 has level 125 and ends the body. -/
theorem test_truncated_cycle :
    let p : Pattern := { shape := .cycle, count := 3, stepDuration := 1000, totalDuration := 3500, leadIn := 0, leadOut := 0
                         selectA := true, selectB := true }
    p.level defaultSettings.levels 3 = 125 ∧ p.isLastStep 3500 3 = true ∧ p.isLastStep 3500 2 = false := by decide

/-! ## The commands -/

theorem test_powerOnReset_forgets : (after .powerOnReset driving).drive.mode = .unconfigured := by decide

set_option maxRecDepth 20000 in
theorem test_boardReset_keeps_settings :
    (after .boardReset driving).drive.mode = .disarmed ∧ (after .boardReset driving).settings.isSome = true := by decide

set_option maxRecDepth 20000 in
theorem test_softRestart_reads_busy : (after .softRestart driving).readRegister 2 = 1 := by decide

/-- R187: the ones written clear. -/
theorem test_attnWrite_clears :
    (after (.attnWrite 0x0005) { parked with window := { runctl := 0, attn := 0x0027, attnen := 0 } }).window.attn = 0x0022 := by
  decide

/-- R185: bits 6 to 15 are not held. -/
theorem test_attnenWrite_masks : (after (.attnenWrite 0xFFFF) parked).readRegister 4 = 0x003F := by decide

theorem test_runctl_zero_is_ignored : after (.registerWriteIgnored 2 0) parked = parked := by decide

/-- R188: Propel Demand 1200 is held as 1000. -/
theorem test_slatePickUp_clamps :
    (after .slatePickUp (parked.writeWords 0 [5, 1, 1, 1200, 0, 0, 0, 0, 0, 0, 5])).exchange.slate.propel = 1000 := by decide

/-- R188: two different stamps are a torn slate. -/
theorem test_slatePickUp_torn : (after .slatePickUp (parked.writeWords 0 [5, 1])).exchange.torn = 1 := by decide

/-- The busy sweep of 11.3: no station PRESENT, a TARE LOAD held. -/
def busyBoard : State :=
  let s := { State.reset with
    drive := { State.reset.drive with mode := .disarmed }, desk := { State.reset.desk with tare := some { slot := 9, words := [] } }
    supervision := { Supervision.initial with goodCount := 3 } }
  let s := s.writeWords (slotBase 5) [1, 65534, 2]
  let s := s.writeWords (slotBase 2) [1, 65535, 9]
  (s.writeWords (slotBase 0) [1, 1, 5, 0xFF]).writeWords (slotBase 7) [1, 1, 0x0C]

set_option maxRecDepth 20000 in
theorem test_boardSweep_worked_outcomes :
    let t := after .boardSweep busyBoard
    [(5 : Fin 16), 2, 0, 7].map (fun k => (t.readWord (slotBase k), t.readWord (slotBase k + 9), t.readWord (slotBase k + 10))) =
      [(3, 7, 0x000F), (1, 0, 0), (3, 0, 0), (3, 1, 0)] := by decide

/-- R190: a POSTED written into the slot of the TARE LOAD that is held is lost, whatever kind stands there now. -/
theorem test_boardSweep_passes_over_a_taken_slot :
    (after .boardSweep (posting { busyBoard with ram := parked.ram } 9 2 [])).readWord (slotBase 9) = 1 ∧
    (after .boardSweep (posting { busyBoard with ram := parked.ram } 9 0x0C [])).readWord (slotBase 9) = 1 := by decide

set_option maxRecDepth 20000 in
theorem test_applySettings_refuses_empty_block :
    (after (.applySettings 3) (posting parked 3 1 [])).readWord (slotBase 3 + 9) = 3 := by decide

theorem test_applySettingsCompletion_configures :
    (after .applySettingsCompletion { State.reset with
      settings := some defaultSettings, desk := { State.reset.desk with apply := some { slot := 2, words := [] } } }).drive.mode =
      .disarmed := by decide

theorem test_armDrive_arms : (after (.armDrive 3) (posting parked 3 2 [])).drive.mode = .armed := by decide

/-- 1.4, step 3: station 3 ABSENT, both banks OFFLINE, good count 1: bits 2, 3 and 4. -/
theorem test_armDrive_mask :
    (after (.armDrive 3) (posting { parked with
      link := { parked.link with stations := parked.link.stations.set 2 Station.initial }, grid := Grid.initial
      supervision := { parked.supervision with goodCount := 1 } } 3 2 [])).readWord (slotBase 3 + 10) = 0x001C := by decide

theorem test_disarmDrive_moving : (after (.disarmDrive 3) (posting driving 3 3 [])).readWord (slotBase 3 + 9) = 4 := by decide

theorem test_clearFallback_gates_propel :
    (after (.clearFallback 3) (posting fallen 3 4 [])).drive.mode = .armed ∧
    (after (.clearFallback 3) (posting fallen 3 4 [])).drive.gate = true := by decide

/-- 1.4, step 10: the last Latched trip cause is cleared. -/
theorem test_clearFault_leaves_tripped : (after (.clearFault 3) (posting tripped 3 5 [2])).drive.mode = .disarmed := by decide

/-- R148: with the transmitter ENABLED already a CLEAR FAULT of LINK ECHO publishes nothing. -/
theorem test_clearFault_publishes_a_change_only :
    let polling : State := { parked with link := { parked.link with pollIndex := 3 } }
    (after (.clearFault 3) (posting polling 3 5 [5])).published.link.pollIndex = 0 ∧
    (after (.clearFault 3) (posting { polling with link := { polling.link with enabled := false } } 3 5 [5])).published.link.pollIndex
      = 3 := by decide

/-- 3.12 at 700 s: θ 6120 is above Restart θ, CAUSE ACTIVE. -/
theorem test_resetLockout_cause_active :
    (after (.resetLockout 3) (posting { parked with grid := { parked.grid with
      bankA := { parked.grid.bankA with stage := .lockedOut, theta := 6120 } } } 3 6 [0])).readWord (slotBase 3 + 9) = 9 := by
  decide

/-- 3.12 at 810 s: θ 4480, DONE and READY. -/
theorem test_resetLockout_done :
    ((after (.resetLockout 3) (posting { parked with grid := { parked.grid with
      bankA := { parked.grid.bankA with stage := .lockedOut, theta := 4480 } } } 3 6 [0])).bank .a).stage = .ready := by decide

/-- 10.8: the four-step stair is accepted with a Body Length of 52000. -/
theorem test_startSelfLoad_body_length :
    (after (.startSelfLoad 3) (posting parked 3 7 [0x0200, 4, 12000, 60000, 3000, 5000])).selfLoad.bodyLength = 52000 := by decide

theorem test_stopSelfLoad_aborts_the_start :
    (after (.stopSelfLoad 3) (posting stairTest 3 8 [])).readWord (slotBase 4 + 9) = 8 := by decide

theorem test_tareLoad_in_unconfigured :
    (after (.tareLoad 3) (posting State.reset 3 9 [])).readWord (slotBase 3 + 10) = 2 := by decide

/-- The empty truck of 6.1 with fifteen samples of 2752 taken. -/
def weighing : State :=
  let s := withRole (withRole (withRole (withRole parked .strutFL 6000) .strutFR 6000) .strutRL 5000) .strutRR 5000
  { s with
    load := { s.load with tareProgress := some (15, 15 * 2752) }
    desk := { s.desk with tare := some { slot := 9, words := [] } } }

theorem test_tareLoadCompletion_tare : (after .tareLoadCompletion weighing).load.tare = 2752 := by decide

/-- 1.6 and 2.11: the limits of F1 and its commands. -/
theorem test_governorFrame_limits :
    let l := (after .governorFrame descending).drive.limits
    [(l.ls, l.lsRow), (l.pl, l.plRow), (l.pr, l.prRow), (l.rl, l.rlRow), (l.rr, l.rrRow)] =
      [(264, 3), (850, 10), (1000, 8), (329, 14), (329, 14)] := by decide

theorem test_governorFrame_commands :
    let d := (after .governorFrame descending).drive
    (d.integrator, d.corrL, d.corrR, d.qL, d.qR) = (300, 1000, 900, -329, -296) := by decide

/-- 10.8, step 3: both duties 420 at 1850 V. -/
theorem test_dcLinkFrame_self_load_duty :
    let t := after .dcLinkFrame (withRole stairTest .dcLinkVoltage 1850)
    (t.grid.bankA.duty, t.grid.bankB.duty) = (420, 420) := by decide

/-- 3.7: V = 2061 begins an overvoltage episode, with 1000 for bank B in spite of its cap. -/
theorem test_dcLinkFrame_overvoltage :
    let t := after .dcLinkFrame (withRole driving .dcLinkVoltage 2061)
    (t.grid.bankB.duty, (t.row .linkOvervoltageRetard).value, t.drive.mode) = (1000, 500, .armed) := by decide

/-- 3.3: the worked thermal frame, as one DC-link frame with the means of the table; 3.5 gives its P_avail. -/
def hot : State :=
  let s := withRole parked .ambient 150
  let grids := { defaultSettings.grids with
    altitudeCooling := 800, bankA := { defaultSettings.grids.bankA with heatingGain := 20, coolingGain := 8, noBlower := 300 }
    bankB := { defaultSettings.grids.bankB with heatingGain := 20, coolingGain := 8, noBlower := 300 } }
  { s with
    settled := some { defaultSettings with grids := grids }
    grid := { s.grid with sums := { v := 1850, iA := 1372, iB := 820, dutyA := 900, dutyB := 540, vInvalid := false
                                    iAInvalid := false, iBInvalid := false, frames := 1 } } }

theorem test_thermalFrame_theta :
    let t := after .thermalFrame hot
    (t.grid.bankA.theta, t.grid.bankB.theta, t.grid.bankB.derate, t.grid.pAvail) = (5804, 6198, 604, 3849) := by decide

/-- 4.6: row 3 of the rated descent, with bank B at θ 6200 after the update. -/
theorem test_thermalFrame_descent_row :
    let s := { driving with
      exchange := { driving.exchange with slate := { driving.exchange.slate with grade := 100 } }
      grid := { driving.grid with grossMass := some 6000, sums := hot.grid.sums, bankB := { driving.grid.bankB with theta := 6205 } } }
    ((after .thermalFrame s).row .descentSpeed).value = 264 := by decide

/-- 5.10, F1: Target 15, Flow 22. -/
theorem test_steeringFrame_turns_in :
    let s := withRole { driving with
      speed := { driving.speed with v := 80 },
      exchange := { driving.exchange with slate := { driving.exchange.slate with steering := 3000 } } } .roadWheelAngle 0
    let t := after .steeringFrame (withRole (withRole s .steerSupply 15200) .accumulator 16000)
    (t.steer.target, t.steer.flow, t.steer.state) = (15, 22, .normal) := by decide

/-- R99: without feedback the servo fails at once. -/
theorem test_steeringFrame_feedback_lost :
    (after .steeringFrame { driving with scan := Scan.initial }).steer.state = .failed := by decide

theorem test_strobe_starts : (after .strobe parked).scan.busy = true := by decide

/-- 8.4: DC LINK VOLTAGE from code 10100. -/
theorem test_strobeCompletion_link_voltage :
    ((after (.strobeCompletion [volts 10100]) { parked with scan := { parked.scan with busy := true } }).sample .dcLinkVoltage) =
      validSample 1849 := by decide

/-- R152: 0 V and below read 0, full scale and above 16383, on every range. -/
theorem test_converterCode_clips :
    [0, 1, 2, 3].map (fun k => (converterCode k (-5), converterCode k 5000000)) = List.replicate 4 (0, 16383) := by decide

/-- 8.4: a code of 0 saturates and keeps the Value. -/
theorem test_strobeCompletion_saturated :
    ((after (.strobeCompletion [volts 0]) { parked with scan := { parked.scan with busy := true } }).sample .dcLinkVoltage) =
      { validSample 150 with state := .outOfRange, outCause := some .saturated } := by decide

/-- 8.6: the fourth period 12870 gives 280. -/
theorem test_speedEdge_speed :
    ((after (.speedEdge .frontL) { descending with us := 5002870 }).channel .frontL).speed = 280 := by decide

/-- 8.6: an edge 18 µs after the last is a glitch. -/
theorem test_speedEdge_glitch :
    ((after (.speedEdge .frontL) { descending with us := 4990018 }).channel .frontL).glitches = 1 := by decide

/-- 8.7 at 250 ms: FRONT R fails, v follows FRONT L. -/
theorem test_silenceEvent_fails_the_sensor :
    let t := after (.silenceEvent .frontR) { descending with
      us := 5240000, timers := { descending.timers with silence := Vector.replicate 4 (some 5240000) } }
    ((t.channel .frontR).state, t.speed.mark, (t.fault .speedSensorFrontR).active) = (.failed, .frontLOnly, true) := by decide

theorem test_longWindowExpiry_counts : (after .longWindowExpiry fallen).supervision.failureCount = 3 := by decide

theorem test_wMinExpiry_opens_the_valid_zone :
    (after .wMinExpiry { parked with supervision := { parked.supervision with window := .earlyZone } }).supervision.window =
      .validZone := by decide

/-- 9.9 at 0 s: FALLBACK with row 7 at min(280, 264). -/
theorem test_wMaxExpiry_falls_back :
    let t := after .wMaxExpiry (after .governorFrame descending)
    (t.drive.mode, (t.row .fallbackSpeed).value, t.supervision.lastFailure) = (.fallback, 264, some .late) := by decide

/-- 9.9 at 0.1 s. -/
theorem test_fallbackDecayStep_lowers : ((after .fallbackDecayStep fallen).row .fallbackSpeed).value = 261 := by decide

/-- 7.10: the Counter goes from 59 to 60 and the header 17 is sent. -/
theorem test_exchangeStart_header :
    (after .exchangeStart parked).link.sending =
      some { station := .inverterL, char := { data := 17, mark := true }, echo := none } := by decide

/-- R140: a header without an echo is awaited at first, and fails the next check. -/
theorem test_echoCheck_failure_disables :
    let t := after .echoCheck (after .exchangeStart driving)
    (t.link.enabled, (after .echoCheck t).link.enabled, (after .echoCheck t).drive.mode) = (true, false, .tripped) := by decide

theorem test_echoCheck_next_character :
    ((after .echoCheck (after (.characterReceived (lineChar true 17)) (after .exchangeStart parked))).link.sending.map
      (fun x => x.char)) = some { data := 0, mark := false } := by decide

/-- 7.12, exchange 7: the third miss in a run loses the station and trips the drive. -/
theorem test_replyTimerExpiry_third_miss :
    let t := after .replyTimerExpiry { driving with link := { driving.link with
      exchange := some (waiting .inverterR 60), stations := driving.link.stations.set 1 { driving.link.stations[1] with missRun := 2 } } }
    ((t.station .inverterR).state, t.drive.mode, (t.fault .station2Lost).detail) = (.lost, .tripped, 1) := by decide

theorem test_characterReceived_unsolicited :
    (after (.characterReceived (lineChar true 145)) parked).link.unsolicitedCount = 1 := by decide

theorem test_characterReceived_stray_mutes :
    (after (.characterReceived (lineChar true 146)) { parked with link := { parked.link with
      exchange := some (waiting .inverterL 60) } }).link.muted = true := by decide

/-- R126: the parity bit of 17 with its mark is 0, and a line held low gives one FRAMING character and then none. -/
theorem test_characterReceived_held_low :
    let low : LineChar := { lineChar true 17 with stopBit := false, afterHigh := false }
    let s := { parked with link := { parked.link with exchange := some (waiting .inverterL 60) } }
    ((after (.characterReceived low) s).link.queue, (after (.characterReceived low) (after (.characterReceived low) s)).link.queue,
      (lineChar true 17).parityBit) = ([{ plain true 17 with framing := true }], [{ plain true 17 with framing := true }], false) := by
  decide

theorem test_assemblerDrain_takes_the_oldest :
    (after .assemblerDrain { answered with link := { answered.link with queue := [plain false 1, plain false 2] } }).link.queue =
      [plain false 2] := by decide

/-- R136: the first character of a line held low has MARK clear: NO HEADER, ahead of its FRAMING. -/
theorem test_judge_held_low_is_no_header :
    ({ Frame.empty with chars := [{ plain false 0 with framing := true }] } : Frame).judge .inverterL 60 false = some .noHeader ∧
    ({ Frame.empty with chars := [{ plain true 145 with framing := true }] } : Frame).judge .inverterL 60 false =
      some .character := by decide

/-- R134: with the last character of the reply still to drain the span is noted, and that drain ends the frame: a character that
came after the span is not in it. -/
theorem test_frameEnd_notes_the_span :
    (after .frameEnd { answered with link := { answered.link with queue := [plain false 1, plain false 2] } }).link.exchange =
      some { waiting .inverterL 60 with gotFirst := true, endsAfter := some 2 } := by decide

/-- The reply of 7.10 with its last character still queued when the span passed, and a later character behind it. -/
def lateCharacter : State :=
  { answered with link := { answered.link with
    exchange := some { waiting .inverterL 60 with gotFirst := true, endsAfter := some 1 }
    frame := { Frame.empty with chars := inverterReply.take 8 }, queue := [plain false 165, plain false 7] } }

theorem test_assemblerDrain_ends_the_frame :
    let t := after .assemblerDrain lateCharacter
    (t.torqueReply .inverterL).torque = -327 ∧ t.link.exchange = none ∧ t.link.queue = [] := by decide

/-- 7.10: the reply is accepted and its torque taken. -/
theorem test_frameEnd_accepts :
    (after .frameEnd answered).torqueReply .inverterL =
      { torque := -327, rpm := 790, winding := 186, fault := false, derated := false, ready := true } := by decide

theorem test_muteEnd_counts_the_stray :
    ((after .muteEnd { parked with link := { parked.link with
      muted := true, exchange := some { waiting .inverterL 60 with gotFirst := true, stray := true } } }).station
        .inverterL).lastReason = some .stray := by decide

theorem test_lineStuckDetected_trips : (after .lineStuckDetected driving).drive.tripCause = some .lineStuck := by decide

theorem test_lineStuckCleared_keeps_the_latch :
    (after .lineStuckCleared (after .lineStuckDetected driving)).fault .lineStuck =
      { active := false, latched := true, count := 1, firstTime := 5000, lastTime := 5000, detail := 0 } := by decide

/-- 7.13: the exchange is abandoned and Poll Index stays. -/
theorem test_haltStart_keeps_poll_index :
    let t := after .haltStart { parked with link := { parked.link with
      haltPending := true, pollIndex := 2, exchange := some (waiting .chopper 60) } }
    (t.link.exchange, t.link.pollIndex, t.timers.haltIdle) = (none, 2, some 5000014) := by decide

/-- 7.13 at 246 µs: the station is polled again with a new counter. -/
theorem test_haltEnd_resumes :
    let t := after .haltEnd { parked with
      window := { parked.window with runctl := 1 }, link := { parked.link with halting := true, pollIndex := 2 } }
    (t.link.exchange.map (fun e => (e.station, e.counter)), t.window.runctl) = (some (.chopper, 60), 0) := by decide

/-- 10.8 at 60 s: DONE with Detail 4, 4, 0 and DISARMED. -/
theorem test_phaseEnd_completes :
    let t := after .phaseEnd { stairTest with selfLoad := { stairTest.selfLoad with
      phase := .leadOut, stepOpen := false, header := { stairTest.selfLoad.header with recorded := 4 } } }
    (t.drive.mode, t.readWord (slotBase 4 + 9), t.readWord (slotBase 4 + 10), t.readWord (slotBase 4 + 11)) =
      (.disarmed, 0, 4, 4) := by decide

/-- 10.8 at 39 s: step 2 closes, step 3 begins at 500. -/
theorem test_stepEnd_next_level :
    let t := after .stepEnd { stairTest with selfLoad := { stairTest.selfLoad with
      stepIndex := 2, stepLevel := 375, stepsRun := 3, header := { stairTest.selfLoad.header with recorded := 2 } } }
    (t.selfLoad.stepIndex, t.selfLoad.stepLevel, t.selfLoad.stepsRun, t.selfLoad.header.recorded) = (3, 500, 4, 3) := by decide

theorem test_assemblerHoldEnd_releases :
    (after .assemblerHoldEnd { parked with link := { parked.link with held := true } }).link.held = false := by decide

/-! ## The queue -/

theorem test_step_takes_the_front :
    step { parked with pending := [.strobe, .attnenWrite 1] } = exec .strobe { parked with pending := [.attnenWrite 1] } := by
  rfl

theorem test_step_idles_for_a_microsecond :
    (match step { parked with us := 5000099 } with
      | .next t => t.pending
      | .fault _ => []
      | .refused _ => []) = [.strobe] := by decide

/-! ## The Setting Block of the defaults (R191) -/

/-- Words 0x0 to 0x3f of the block of defaults. -/
def blockWords0 : List Word :=
  [560, 120, 1000, 1000, 0, 0, 0, 0, 0, 0, 0, 0, 0, 0, 0, 0, 2, 16, 8, 120, 300, 100, 20, 20, 0, 0, 0, 0, 0, 0, 0, 0, 1, 2400,
   1200, 6000, 6500, 4500, 4000, 20, 8, 300, 1, 2400, 1200, 6000, 6500, 4500, 4000, 20, 8, 300, 1000, 600, 3000, 1500, 3000,
   4500, 1500, 1850, 2050, 50, 50, 1]

/-- Words 0x40 to 0x7f of the block of defaults. -/
def blockWords1 : List Word :=
  [1400, 1100, 32, 500, 0, 0, 0, 0, 0, 0, 0, 0, 0, 0, 0, 0, 20, 90, 30, 0, 0, 0, 0, 0, 0, 0, 0, 0, 0, 0, 0, 0, 0, 60, 3800, 0,
   3800, 100, 3800, 200, 2500, 300, 1500, 450, 800, 650, 500, 0, 3000, 100, 3000, 200, 2400, 300, 1800, 450, 1200, 650, 800,
   1000, 24, 400, 95, 0]

/-- Words 0x80 to 0xbf of the block of defaults. -/
def blockWords2 : List Word :=
  [600, 300, 560, 600, 480, 1000, 380, 1500, 290, 2000, 230, 2800, 170, 3800, 120, 0, 420, 300, 400, 600, 340, 1000, 270,
   1500, 200, 2000, 150, 2800, 110, 3800, 80, 12000, 15000, 9000, 800, 0, 0, 0, 0, 0, 0, 0, 0, 0, 0, 0, 0, 0, 2500, 3500,
   1000, 1000, 1500, 1500, 200, 1100, 1200, 400, 200, 600, 700, 60, 1400, 1600]

/-- Words 0xc0 to 0xff of the block of defaults. -/
def blockWords3 : List Word :=
  [1800, 0, 0, 0, 0, 0, 0, 0, 0, 0, 0, 0, 0, 0, 0, 0, 6, 1, 2, 3, 1, 2, 4, 0, 0, 0, 0, 0, 0, 100, 355, 0, 61056, 54, 61056,
   54, 61056, 54, 61056, 54, 0, 0, 0, 0, 0, 0, 0, 0, 3000, 10, 200, 3, 0, 0, 0, 0, 0, 0, 0, 0, 0, 0, 0, 0]

/-- Words 0x100 to 0x13f of the block of defaults. -/
def blockWords4 : List Word :=
  [100, 16, 0, 3, 1, 1, 0, 750, 1, 3, 2, 4, 0, 500, 2, 3, 3, 4, 0, 500, 3, 3, 13, 2, 61036, 2250, 4, 3, 11, 4, 0, 7500, 5, 3,
   12, 4, 0, 7500, 0, 3, 1, 1, 0, 750, 6, 3, 4, 8, 65136, 2500, 7, 3, 5, 8, 65136, 2500, 8, 3, 7, 16, 0, 7500, 9, 3]

/-- Words 0x140 to 0x17f of the block of defaults. -/
def blockWords5 : List Word :=
  [8, 16, 0, 7500, 10, 3, 6, 8, 65136, 250, 0, 3, 1, 1, 0, 750, 11, 3, 9, 16, 0, 7500, 12, 3, 10, 16, 0, 7500, 13, 3, 14, 2,
   58336, 3600, 0, 0, 0, 0, 0, 0, 0, 0, 0, 0, 0, 0, 0, 0, 0, 0, 0, 0, 0, 0, 0, 0, 0, 0, 0, 0, 0, 0, 0, 0]

/-- Words 0x180 to 0x1bf of the block of defaults. -/
def blockWords6 : List Word :=
  [0, 0, 0, 0, 0, 0, 0, 0, 0, 0, 0, 0, 0, 0, 0, 0, 0, 0, 0, 2950, 0, 1950, 0, 1950, 65136, 9000, 65136, 9000, 65136, 600, 100,
   29000, 100, 29000, 100, 29000, 100, 29000, 0, 29000, 0, 29000, 61236, 4300, 58536, 7000, 0, 0, 125, 250, 375, 500, 625,
   750, 875, 1000, 1000, 750, 500, 250, 0, 0, 0, 0]

/-- Words 0x1c0 to 0x1ca of the block of defaults. -/
def blockWords7 : List Word :=
  [0, 1, 0, 0, 0, 0, 0, 0, 0, 0, 0]

/-- The whole block. -/
def defaultBlock : List Word :=
  blockWords0 ++ blockWords1 ++ blockWords2 ++ blockWords3 ++ blockWords4 ++ blockWords5 ++ blockWords6 ++ blockWords7

theorem test_default_block_length : defaultBlock.length = 0x1CB := by decide +kernel

/-- The block of defaults written into the RAM is the block that APPLY SETTINGS reads. -/
theorem test_block_is_read_whole (s : State) : (s.writeWords 0x0800 defaultBlock).settingBlock = { words := defaultBlock } := by
  have h := State.readWords_writeWords s 0x0800 defaultBlock (by rw [test_default_block_length]; decide)
  rw [test_default_block_length] at h
  rw [State.settingBlock, h]

set_option maxRecDepth 50000 in
theorem test_default_block_passes : settingFailure { words := defaultBlock } = none := by decide +kernel

set_option maxRecDepth 50000 in
theorem test_default_block_reads : readSettings { words := defaultBlock } = defaultSettings := by decide +kernel

/-! ## Witnesses: concrete states that meet the hypotheses of each statement, clause by clause -/

/-- A state with its speed. -/
def atSpeed (s : State) (v : Nat) : State := { s with speed := { s.speed with v := v } }

/-- A state with the monitor's two counts. -/
def counted (s : State) (failures good : Nat) : State :=
  { s with supervision := { s.supervision with failureCount := failures, goodCount := good } }

/-- A state with the exchange in progress, the character sent and the queue. -/
def onLine (s : State) (e : Option ExchangeInProgress) (x : Option Sending) (q : List RxChar) : State :=
  { s with link := { s.link with exchange := e, sending := x, queue := q } }

theorem witness_StepRunsFrontCommand :
    ({ parked with pending := [.strobe, .boardSweep] } : State).pending = .strobe :: [.boardSweep] := by rfl

theorem witness_EmptyQueueTicks : State.reset.pending = [] := by rfl

set_option maxRecDepth 20000 in
theorem witness_RegisterWindow :
    ((2 : BitVec 3) ≠ 3 ∧ (2 : BitVec 3) ≠ 4 ∧ (0 : Word) ≠ 1) ∧
    ((after .softRestart State.reset).window.runctl ≠ 0) ∧ State.reset.window.runctl = 0 ∧
    ((1 : BitVec 3) ≠ 3 ∧ (5 : BitVec 3) ≠ 4 ∧ (5 : BitVec 3) ≠ 2) := by decide

theorem witness_PowerOnResetLeavesResetState : ∀ c : FaultCode, (0x0FFF : Nat) ≠ 0x0300 + 8 * c.index := by
  intro c
  cases c <;> decide

theorem witness_RestartsOfThePart :
    (ResetKind.soft = .soft → parked.window.runctl = 0) ∧ busyBoard.desk.tare = some { slot := 9, words := [] } ∧
    FaultCode.linkEcho ≠ .fallbackLatched ∧ slotBase 8 ≤ slotBase 8 + 15 := by decide

/-- A state in EARLY ZONE with a slate of Heartbeat 1 and Zone Speed 300 that has not been picked up. -/
def earlyZone (s : State) : State :=
  { s.writeWords 0 [5, 1, 0, 0, 0, 0, 300, 0, 0, 0, 5] with
    supervision := { s.supervision with running := true, window := .earlyZone } }

/-- R17, R188: row 2 is written before the new Heartbeat is judged (R166 takes ARMED to FALLBACK), and not in FALLBACK. -/
theorem test_slatePickUp_new_heartbeat :
    (let t := after .slatePickUp (earlyZone driving)
     (t.drive.mode, (t.row .zoneSpeed).active, (t.row .zoneSpeed).value) = (.fallback, true, 300)) ∧
    (after .slatePickUp (earlyZone fallen)).row .zoneSpeed = fallen.row .zoneSpeed := by decide

theorem witness_PickUpOfSlate :
    let torn := parked.writeWords 0 [5, 1]
    let again : State := { parked.writeWords 0 [5] with exchange := { parked.exchange with lastStamp := some 5 } }
    let same : State := { again.writeWords 10 [5] with exchange := { parked.exchange with lastStamp := some 5 } }
    let fresh := parked.writeWords 0 [5, 0, 1, 0, 0, 0, 300, 0, 0, 0, 5]
    torn.readWord 0 ≠ torn.readWord 10 ∧
    (same.readWord 0 = same.readWord 10 ∧ same.exchange.lastStamp = some (same.readWord 0)) ∧
    (fresh.readWord 0 = fresh.readWord 10 ∧ fresh.exchange.lastStamp ≠ some (fresh.readWord 0) ∧
      (3800 : Int) = fresh.active.steer.maxLock ∧ (fresh.readWord 1).toNat = fresh.exchange.slate.heartbeat ∧
      fresh.drive.mode ≠ .fallback ∧ fresh.drive.mode ≠ .unconfigured ∧ fresh.readWord 6 ≠ 0) ∧
    (let s := earlyZone driving
     s.readWord 0 = s.readWord 10 ∧ s.exchange.lastStamp ≠ some (s.readWord 0) ∧
       (s.readWord 1).toNat ≠ s.exchange.slate.heartbeat ∧ s.drive.mode ≠ .fallback ∧ s.drive.mode ≠ .unconfigured) ∧
    (let s := parked.writeWords 0 [5, 1, 0, 0, 0, 0, 0, 0, 0, 0, 5]
     s.readWord 0 = s.readWord 10 ∧ s.exchange.lastStamp ≠ some (s.readWord 0) ∧ s.readWord 6 = 0) ∧
    (earlyZone fallen).drive.mode = .fallback ∧ (earlyZone State.reset).drive.mode = .unconfigured := by decide

set_option maxRecDepth 20000 in
theorem witness_SweepOfOneSlot :
    (∀ x : Fin 16, parked.readWord (slotBase x) ≠ 1) ∧
    (∀ x : Fin 16, (posting parked 3 9 []).readWord (slotBase x) = 1 ↔ x = 3) ∧
    (posting parked 3 9 []).readWord (slotBase 3 + 2) = OrderKind.tareLoad.code ∧
    (posting parked 3 0 []).readWord (slotBase 3 + 2) = 0 ∧ 9 < ((posting parked 3 10 []).readWord (slotBase 3 + 2)).toNat ∧
    ¬ slotTaken parked 3 ∧ slotTaken busyBoard 9 ∧ ¬ slotTaken busyBoard 8 := by
  unfold slotTaken
  decide

set_option maxRecDepth 20000 in
/-- 11.3: the stamps of the busy board follow that of slot 5, and slots 0 and 7 have the same. -/
theorem witness_SweepOfOneSlot_several :
    stampsFollow busyBoard 5 ∧ busyBoard.sweepOrder = [5, 2, 0, 7] ∧
    (let s := (posting (posting (posting State.reset 0 9 []) 1 9 []) 2 9 []).writeWords (slotBase 1 + 1) [30000]
     ∀ a : Fin 16, ¬ stampsFollow (s.writeWords (slotBase 2 + 1) [60000]) a) ∧
    (ownerHolds busyBoard .tareLoad ∧ Owner.orderDesk ∈ [Owner.orderDesk] ∧ ¬ ownerHolds busyBoard .armDrive) := by
  unfold stampsFollow ownerHolds
  decide

theorem witness_OrdersLeftAlone :
    ¬ posted parked 3 OrderKind.armDrive.code ∧ ¬ posted (posting busyBoard 9 2 []) 9 OrderKind.armDrive.code ∧
    ownerHolds busyBoard .tareLoad ∧
    (({ parked with desk := { parked.desk with apply := some { slot := 2, words := [] } } } : State).desk.apply.isSome = true ∧
      parked.drive.mode ≠ .fallback) := by
  unfold posted slotTaken ownerHolds
  decide

theorem witness_OrdersRefusedInWrongMode :
    (posted (posting driving 3 2 []) 3 OrderKind.armDrive.code ∧ ¬ ownerHolds driving .armDrive ∧
      permittedIn .armDrive driving.drive.mode = false) ∧
    (posted (posting fallen 3 9 []) 3 OrderKind.tareLoad.code ∧ ¬ ownerHolds fallen .tareLoad ∧
      permittedIn .tareLoad fallen.drive.mode = false) := by
  unfold posted slotTaken ownerHolds
  decide

theorem witness_ArmDrive_accepted :
    posted (posting parked 3 2 []) 3 2 ∧ (posting parked 3 2 []).drive.mode = .disarmed ∧
    ∀ k, k < 9 → armConditionHolds (posting parked 3 2 []) k := by
  unfold posted slotTaken
  refine ⟨by decide, by decide, fun k hk => ?_⟩
  obtain rfl | rfl | rfl | rfl | rfl | rfl | rfl | rfl | rfl :
      k = 0 ∨ k = 1 ∨ k = 2 ∨ k = 3 ∨ k = 4 ∨ k = 5 ∨ k = 6 ∨ k = 7 ∨ k = 8 := by omega
  case inr.inr.inr.inr.inr.inr.inr.inl =>
    intro c _
    cases c <;> decide
  all_goals simp only [armConditionHolds]; decide

theorem witness_ArmDrive_not_ready :
    posted (posting (counted parked 0 2) 3 2 []) 3 2 ∧ (counted parked 0 2).drive.mode = .disarmed ∧
    ¬ ∀ k, k < 9 → armConditionHolds (posting (counted parked 0 2) 3 2 []) k := by
  unfold posted slotTaken
  refine ⟨by decide, by decide, fun h => ?_⟩
  have := h 4 (by decide)
  simp only [armConditionHolds] at this
  revert this
  decide

theorem witness_DisarmDrive :
    posted (posting driving 3 3 []) 3 3 ∧ (driving.drive.mode.drives = true ∧ 5 ≤ (atSpeed driving 5).speed.v) ∧
    parked.drive.mode = .disarmed ∧ ((atSpeed driving 4).speed.v < 5 ∧ driving.drive.mode = .armed) ∧
    (fallen.drive.mode.drives = true ∧ (atSpeed fallen 4).speed.v < 5 ∧ fallen.drive.mode = .fallback) := by
  unfold posted slotTaken
  decide

theorem witness_ClearFallback :
    posted (posting fallen 3 4 []) 3 4 ∧ fallen.drive.mode = .fallback ∧ 8 ≤ (counted fallen 8 3).supervision.failureCount ∧
    ((counted fallen 7 2).supervision.failureCount < 8 ∧ (counted fallen 7 2).supervision.goodCount < 3) ∧
    ((counted fallen 7 3).supervision.failureCount < 8 ∧ 3 ≤ (counted fallen 7 3).supervision.goodCount ∧
      (fallen.fault .fallbackLatched).active = false) := by
  unfold posted slotTaken
  decide

theorem witness_ClearFaultOrder :
    (posted (posting parked 3 5 [0]) 3 5 ∧ (posting parked 3 5 [0]).readWord (slotBase 3 + 3) = 0) ∧
    (posted (posting parked 3 5 [44]) 3 5 ∧ 43 < ((posting parked 3 5 [44]).readWord (slotBase 3 + 3)).toNat ∧
      (posting parked 3 5 [44]).readWord (slotBase 3 + 3) ≠ 0xFF) ∧
    (((posting parked 3 5 [1]).readWord (slotBase 3 + 3)).toNat = FaultCode.station1Lost.number ∧
      ((withFault parked .station1Lost raised).fault .station1Lost).active = true) ∧
    (((posting parked 3 5 [43]).readWord (slotBase 3 + 3)).toNat = FaultCode.traceOverrun.number ∧
      (parked.fault .traceOverrun).active = false ∧ parked.drive.mode ≠ .tripped ∧ clearingActs parked .traceOverrun = false) ∧
    (posting parked 3 5 [0xFF]).readWord (slotBase 3 + 3) = 0xFF := by
  unfold posted slotTaken
  decide

/-- The servo FAILED by STEER TRACKING, nothing else amiss. -/
def failedServo : State :=
  withRole { parked with steer := { parked.steer with state := .failed, failCause := some .steerTracking } } .accumulator 16000

theorem witness_ClearFaultTellsOwners :
    (posted (posting tripped 3 5 [2]) 3 5 ∧ ((posting tripped 3 5 [2]).readWord (slotBase 3 + 3)).toNat = FaultCode.station2Lost.number ∧
      (tripped.fault .station2Lost).active = false ∧ tripped.drive.mode = .tripped ∧ FaultCode.station2Lost.isTripCause = true ∧
      (tripped.fault .station2Lost).latched = true) ∧
    (parked.grid.ovHigh = false ∧ parked.drive.mode ≠ .unconfigured ∧ parked.drive.mode ≠ .tripped ∧
      parked.link.enabled = true ∧ ({ parked.link with enabled := false } : Link).enabled = false) ∧
    (failedServo.steer.state = .failed ∧ failedServo.steer.failCause = some .steerTracking ∧
      failedServo.failureCondition = none) := by
  unfold posted slotTaken
  decide

set_option maxRecDepth 50000 in
/-- ALL in TRIPPED: a Latched trip cause is cleared, and none stays; with a second one Active, one stays. -/
theorem witness_ClearFaultTellsOwners_all :
    (posting tripped 3 5 [0xFF]).readWord (slotBase 3 + 3) = 0xFF ∧
    ((after (.clearFault 3) (posting tripped 3 5 [0xFF])).drive.mode,
      (after (.clearFault 3) (posting (withFault tripped .lineStuck raised) 3 5 [0xFF])).drive.mode) = (.disarmed, .tripped) := by
  decide

/-- Bank A LOCKED OUT at a θ. -/
def lockedAt (theta : Int) : State :=
  { parked with grid := { parked.grid with bankA := { parked.grid.bankA with stage := .lockedOut, theta := theta } } }

theorem witness_ResetLockout :
    (posted (posting parked 3 6 [2]) 3 6 ∧ parked.drive.mode ≠ .fallback ∧
      1 < ((posting parked 3 6 [2]).readWord (slotBase 3 + 3)).toNat) ∧
    ((posting parked 3 6 [1]).readWord (slotBase 3 + 3) = (if BankId.b = .a then 0 else 1) ∧ (parked.bank .b).stage ≠ .lockedOut) ∧
    (((lockedAt 4501).bank .a).stage = .lockedOut ∧ ((lockedAt 4501).bankSettings .a).restartTheta < ((lockedAt 4501).bank .a).theta) ∧
    (((lockedAt 4500).bank .a).stage = .lockedOut ∧
      ¬ (((lockedAt 4500).bankSettings .a).restartTheta < ((lockedAt 4500).bank .a).theta ∨
        ((lockedAt 4500).bank .a).airOver = true ∨ ((lockedAt 4500).bank .a).circuitFailed = true ∨
        (lockedAt 4500).bankFaultFlag .a = true) ∧
      ((lockedAt 4500).bankSettings .a).enabled = true ∧ ((lockedAt 4500).station .chopper).state = .present ∧
      (lockedAt 4500).chopperReply.ready = true ∧ ((lockedAt 4500).bank .a).theta < ((lockedAt 4500).bankSettings .a).warnTheta) := by
  unfold posted slotTaken
  decide

theorem witness_StartSelfLoad_accepted :
    let s := posting parked 3 7 [0x0200, 4, 12000, 60000, 3000, 5000]
    posted s 3 7 ∧ s.desk.start = none ∧ s.desk.apply = none ∧ s.drive.mode = .disarmed ∧
    startArgumentsInRange (startArguments s 3) ∧ (atSpeed s 4).speed.v < 5 ∧ s.exchange.slate.parkApplied = true ∧
    (startConditionHolds s (startArguments s 3) 0 ∧ startConditionHolds s (startArguments s 3) 1 ∧
      startConditionHolds s (startArguments s 3) 2) := by
  simp only [posted, slotTaken, startArgumentsInRange, startConditionHolds]
  exact ⟨by decide, by decide, by decide, by decide, by decide, by decide, by decide, by decide, fun _ => by decide,
    fun _ => by decide⟩

/-- The arguments of the shortest stair of four steps. -/
def shortStair : StartArguments :=
  { shape := 0, banks := 2, count := 4, stepDuration := 100, totalDuration := 400, leadIn := 0, leadOut := 0 }

/-- Each argument one past its range, and a body too short. -/
theorem witness_StartSelfLoad_refused :
    startArgumentsInRange shortStair ∧ startArgumentFails { shortStair with shape := 2 } 0 ∧ startArgumentFails { shortStair with banks := 3 } 0 ∧
    startArgumentFails { shortStair with count := 3 } 1 ∧ startArgumentFails { shortStair with shape := 1, count := 13 } 1 ∧
    startArgumentFails { shortStair with stepDuration := 99 } 2 ∧ startArgumentFails { shortStair with stepDuration := 60001 } 2 ∧
    startArgumentFails { shortStair with totalDuration := 99 } 3 ∧ startArgumentFails { shortStair with leadIn := 60001 } 4 ∧
    startArgumentFails { shortStair with leadOut := 60001 } 5 ∧ ¬ startArgumentsInRange { shortStair with totalDuration := 399 } ∧
    5 ≤ (atSpeed parked 5).speed.v ∧ driving.exchange.slate.parkApplied = false := by
  simp only [startArgumentsInRange, startArgumentFails]
  refine ⟨by decide, by decide, by decide, by decide, by decide, by decide, by decide, by decide, by decide, by decide,
    by decide, by decide⟩

/-- Station 3 not PRESENT, bank A LOCKED OUT and selected, bank B OFFLINE and selected: each bit of the mask. -/
theorem witness_StartSelfLoad_not_ready (a : StartArguments) (hA : a.banks = 0) (b : StartArguments) (hB : b.banks = 1) :
    ¬ startConditionHolds State.reset a 0 ∧ ¬ startConditionHolds (lockedAt 500) a 1 ∧ ¬ startConditionHolds State.reset b 2 ∧
    startConditionHolds (lockedAt 500) b 1 := by
  refine ⟨by simp only [startConditionHolds]; decide, fun h => ?_, fun h => ?_, fun h => absurd hB h⟩
  · exact absurd (h (by omega)) (by decide)
  · exact absurd (h (by omega)) (by decide)

theorem witness_StopSelfLoad :
    (posted (posting parked 3 8 []) 3 8 ∧ parked.drive.mode ≠ .selfLoad) ∧
    (posted (posting stairTest 3 8 []) 3 8 ∧ stairTest.drive.mode = .selfLoad ∧ stairTest.selfLoad.phase ≠ .idle ∧
      stairTest.desk.start = some { slot := 4, words := [7, 7, 0x0200, 4, 12000, 60000, 3000, 5000] } ∧
      stairTest.selfLoad.phase = .body ∧ stairTest.selfLoad.stepOpen = true) ∧
    (let s := { stairTest with selfLoad := { stairTest.selfLoad with phase := .leadOut, stepOpen := false } }
     posted (posting s 3 8 []) 3 8 ∧ s.drive.mode = .selfLoad ∧ s.selfLoad.phase ≠ .idle ∧ s.selfLoad.phase ≠ .body) := by
  unfold posted slotTaken
  decide

theorem witness_TareLoad :
    posted (posting parked 3 9 []) 3 9 ∧ busyBoard.desk.tare.isSome = true ∧
    (parked.desk.tare = none ∧ fallen.drive.mode = .fallback ∧ parked.drive.mode ≠ .fallback) ∧
    ({ parked with load := { parked.load with cycle := .loading } } : State).load.cycle ≠ .empty ∧
    (parked.load.cycle = .empty ∧ parked.exchange.slate.bodyRaised = false ∧ 5 ≤ (atSpeed parked 5).speed.v ∧
      (atSpeed parked 4).speed.v < 5) ∧
    ((withFault parked .strutSensorInvalid raised).fault .strutSensorInvalid).active = true ∧
    State.reset.drive.mode = .unconfigured ∧
    ((parked.fault .strutSensorInvalid).active = false ∧ parked.drive.mode ≠ .unconfigured) := by
  unfold posted slotTaken
  decide

theorem witness_TareLoadCompletion :
    parked.desk.tare = none ∧
    (weighing.desk.tare = some { slot := 9, words := [] } ∧ weighing.load.tareProgress = some (15, 41280) ∧
      weighing.load.acting = true ∧ weighing.load.cycle = .empty ∧ weighing.exchange.slate.bodyRaised = false ∧
      weighing.speed.v < 5 ∧ (∀ r ∈ strutRoles, (weighing.sample r).state = .valid) ∧
      (2752 : Int) = ((weighing.sample .strutFL).value * weighing.active.load.areaFL +
        (weighing.sample .strutFR).value * weighing.active.load.areaFR +
        (weighing.sample .strutRL).value * weighing.active.load.areaRL +
        (weighing.sample .strutRR).value * weighing.active.load.areaRR) / 9810 ∧
      (0 : Int) ≤ (41280 + 2752) / 16 ∧ (41280 + 2752 : Int) / 16 ≤ 65535) := by decide

/-- The part in DISARMED with an APPLY SETTINGS held. -/
def applying : State := { parked with desk := { parked.desk with apply := some { slot := 2, words := [] } } }

set_option maxRecDepth 20000 in
theorem witness_ApplySettings :
    (posted (posting State.reset 3 1 []) 3 1 ∧ State.reset.desk.apply = none ∧ State.reset.drive.mode = .unconfigured) ∧
    (posted (posting parked 3 1 []) 3 1 ∧ parked.drive.mode = .disarmed) ∧
    settingFailure (posting parked 3 1 []).settingBlock = some 0 ∧
    ((parked.writeWords 0x0800 [49]).readWord 0x0800).toNat < 50 ∧ 650 < ((parked.writeWords 0x0800 [651]).readWord 0x0800).toNat := by
  unfold posted slotTaken
  decide

/-- The branch of R191 that applies the block: an order posted and the block of defaults in the RAM. -/
theorem witness_ApplySettings_applied :
    settingFailure ((posting parked 3 1 []).writeWords 0x0800 defaultBlock).settingBlock = none ∧
    posted ((posting parked 3 1 []).writeWords 0x0800 defaultBlock) 3 1 ∧
    ((posting parked 3 1 []).writeWords 0x0800 defaultBlock).desk.apply = none ∧
    ((posting parked 3 1 []).writeWords 0x0800 defaultBlock).drive.mode = .disarmed := by
  refine ⟨?_, ?_, rfl, rfl⟩
  · rw [test_block_is_read_whole]
    exact test_default_block_passes
  · unfold posted slotTaken
    rw [State.readWord_writeWords_outside _ _ _ _ (Or.inl (by decide)),
      State.readWord_writeWords_outside _ _ _ _ (Or.inl (by decide))]
    decide

theorem witness_ApplySettingsCompletion :
    State.reset.desk.apply = none ∧
    (applying.desk.apply = some { slot := 2, words := [] } ∧ applying.settings = some defaultSettings ∧
      applying.supervision.running = true ∧ applying.drive.mode ≠ .unconfigured) ∧
    State.reset.supervision.running = false := by decide

theorem witness_GovernorFrame_modes :
    State.reset.drive.mode.drives = false ∧ State.reset.drive.mode = .unconfigured ∧ parked.drive.mode.drives = false ∧
    driving.drive.mode.drives = true ∧ fallen.drive.mode.drives = true := by decide

theorem witness_DirectionAndEffectiveLimits :
    State.reset.drive.mode = .unconfigured ∧ fallen.drive.mode = .fallback ∧ 5 ≤ (atSpeed driving 5).speed.v ∧
    driving.exchange.slate.direction = driving.drive.held ∧
    (let s : State := atSpeed { driving with drive := { driving.drive with held := .reverse } } 4
     s.drive.mode ≠ .unconfigured ∧ s.drive.mode ≠ .fallback ∧ s.speed.v < 5 ∧
       s.exchange.slate.direction ≠ s.drive.held) := by decide

theorem witness_LimitCauseFollowsBindingRow :
    parked.drive.mode ≠ .unconfigured ∧ (ResetKind.soft = .soft → parked.window.runctl = 0) := by decide

/-- 2.11 and, with a higher retard limit, the branch without windup; the lines of R30 at the boundary 10. -/
theorem witness_ControllerAndNetRequest :
    ((0 : Int) ≤ 300 ∧ (300 : Int) ≤ 1000 ∧ (300 : Int) = (if (280 : Int) = 0 then 0 else 300) ∧
      (308 : Int) = max 0 (min 1000 (300 + 8 * (280 - 264) / 16)) ∧ (340 : Int) = max 0 (min 1000 (16 * (280 - 264) / 8 + 308)) ∧
      (329 : Int) < 340 ∧ (340 : Int) ≤ 340) ∧
    ((0 : Int) ≤ 0 ∧ (0 : Int) < 332) ∧ ((10 : Int) ≤ 300 - 290 ∧ (300 : Int) - 291 < 10) := by decide

theorem witness_WheelStagesFollowTheRules :
    let c := defaultSettings.governing
    let left := wheelStages c false 0 332 1000 329 280 1000 272 1000 (-310)
    let right := wheelStages c false 0 332 1000 329 280 1000 240 1000 (-310)
    let propel := wheelStages c false 500 0 1000 1000 100 1142 115 1000 490
    let coasting := wheelStages c false 0 0 1000 1000 100 1000 115 1000 0
    ((0 : Int) ≤ 1000 ∧ (0 : Int) ≤ 329 ∧ 0 < c.ramp) ∧ (left.p ≤ 0 ∧ 0 < left.r ∧ left.slip ≤ c.slipThreshold) ∧
    c.slipThreshold < right.slip ∧ 0 < propel.p ∧ (coasting.p ≤ 0 ∧ coasting.r ≤ 0) ∧
    ((-329 : Int) ≤ -310 ∧ (-310 : Int) ≤ 1000) ∧
    (-329 ≤ left.target ∧ left.target ≤ 1000 ∧ -310 - c.ramp ≤ left.target ∧ left.target ≤ -310 + c.ramp) ∧
    (400 + c.ramp < (wheelStages c false 500 0 1000 1000 100 1142 115 1000 400).target ∧
      (wheelStages c false 0 332 1000 329 280 1000 272 1000 (-200)).target < -200 - c.ramp) := by decide

/-- 4.9: the margin is 30; 195 ends the episode, 196 begins one, and it is judged at 2000 ms. -/
theorem witness_RetardInsufficientAfterTwoSeconds :
    let s : State := withRow (atSpeed driving 195) .descentSpeed 165
    let t := after .governorFrame s
    (s.drive.mode.drives = true ∧ (s.speed.v : Int) ≤ t.drive.limits.ls + s.inForce.descent.overspeedMargin) ∧
    (t.drive.limits.ls + s.inForce.descent.overspeedMargin < (196 : Int) ∧ s.drive.overSince = none) ∧
    (elapsed 5000 3001 < 2000 ∧ 2000 ≤ elapsed 5000 3000) ∧ (s.fault .retardInsufficient).active = false := by decide

theorem witness_DcLinkFrameRegulates :
    State.reset.drive.mode = .unconfigured ∧ (parked.drive.mode ≠ .unconfigured ∧ parked.drive.mode ≠ .selfLoad) ∧
    (parked.sample .dcLinkVoltage).state = .valid ∧ (parked.sample .bankACurrent).state = .valid ∧
    (State.reset.sample .bankBCurrent).state ≠ .valid ∧ 0 ≤ parked.grid.dutyTotal ∧
    (({ validSample 9 with state := .outOfRange } : Sample).state = .outOfRange ∧ (State.reset.sample .dcLinkVoltage).state = .never) ∧
    (let t := after .dcLinkFrame (withRole parked .dcLinkVoltage 1850)
     t.grid.ovHigh = false ∧ 0 ≤ t.grid.bankA.derate ∧ 0 ≤ t.grid.bankB.derate ∧ (t.bank .a).stage = .ready) ∧
    ((after .dcLinkFrame (lockedAt 5000)).bank .a).available = false ∧
    ((after .dcLinkFrame (lockedAt 5000)).bank .a).stage = .lockedOut ∧
    (let t := after .dcLinkFrame (withRole parked .dcLinkVoltage 2050)
     (t.bank .a).available = true ∧ t.grid.ovHigh = true) ∧
    parked.selfLoad.phase = .idle := by decide

/-- The part in ARMED with the link in HIGH since a time. -/
def highSince (since : Nat) : State := { driving with grid := { driving.grid with ovHigh := true, ovEntry := since } }

theorem witness_LinkVoltageSupervised :
    (driving.drive.mode ≠ .unconfigured ∧ driving.drive.mode ≠ .selfLoad ∧ driving.selfLoad.phase = .idle ∧
      driving.grid.ovRecheck = false ∧ (driving.sample .dcLinkVoltage).state = .valid) ∧
    (driving.grid.ovHigh = false ∧ driving.inForce.grids.vOv ≤ 2050 ∧ (2049 : Int) < driving.inForce.grids.vOv) ∧
    ((highSince 4950).grid.ovHigh = true ∧ (1999 : Int) < driving.inForce.grids.vOv - driving.inForce.grids.ovHysteresis ∧
      driving.inForce.grids.vOv - driving.inForce.grids.ovHysteresis ≤ 2000) ∧
    (elapsed driving.now 4951 < driving.inForce.grids.ovPersist ∧ driving.inForce.grids.ovPersist ≤ elapsed driving.now 4950 ∧
      driving.grid.ovReported = false ∧ driving.inForce.grids.ovLatch = true) ∧
    ((driving.fault .dcLinkOvervoltage).active = false ∧ driving.drive.mode.drives = true ∧ driving.link.enabled = true ∧
      driving.link.halting = false) ∧
    (1399 : Int) < driving.inForce.grids.vUv ∧
    (let s := withFault { driving with grid := { driving.grid with ovRecheck := true, ovHeld := true } } .dcLinkOvervoltage latchedOnly
     s.grid.ovRecheck = true ∧ s.grid.ovHeld = true ∧ (s.sample .dcLinkVoltage).state = .valid ∧
       (s.fault .dcLinkOvervoltage).latched = true) := by decide

theorem witness_ThermalFrameUpdatesModels :
    State.reset.drive.mode = .unconfigured ∧ hot.drive.mode ≠ .unconfigured ∧
    ((1 : Nat) = hot.grid.sums.frames ∧ (0 : Nat) < 1 ∧
      (1850 : Int) = (if hot.grid.sums.vInvalid then hot.grid.lastMeanV else hot.grid.sums.v / (1 : Nat)) ∧
      (hot.bank .a).modelRunning = true) ∧
    ((State.reset.bank .a).modelRunning = false ∧ (State.reset.bank .a).startDue = false) ∧
    ({ Bank.initial with startDue := true } : Bank).startDue = true := by decide

/-- Bank A at a θ that the frame leaves as it is: no heat, and the ambient temperature is its own. -/
def still (stage : Stage) (theta : Int) : State :=
  let s := { hot with grid := { hot.grid with
    sums := { hot.grid.sums with iA := 0, dutyA := 0 }, bankA := { hot.grid.bankA with stage := stage, theta := theta } } }
  withRole s .ambient theta

theorem witness_ThermalFrameTripsAndReturnsBanks :
    (let s := still .ready 6500
     s.drive.mode ≠ .unconfigured ∧ (s.bank .a).available = true ∧
       (s.bankSettings .a).tripTheta ≤ ((after .thermalFrame s).bank .a).theta ∧
       (s.bankSettings .a).restartTheta < (s.bankSettings .a).tripTheta ∧ (s.fault BankId.a.tripCode).active = false) ∧
    ((lockedAt 500).bank .a).stage = .lockedOut ∧
    (let s := still .tripped 4501
     (s.bank .a).stage = .tripped ∧ (s.bankSettings .a).restartTheta < ((after .thermalFrame s).bank .a).theta) ∧
    (let s := still .tripped 4500
     let t := after .thermalFrame s
     (t.bank .a).theta ≤ (s.bankSettings .a).restartTheta ∧ (t.bank .a).airOver = false ∧ (t.bank .a).circuitFailed = false ∧
       s.bankFaultFlag .a = false ∧ s.grid.reportAnew = false) := by decide

/-- Bank A at θ 6499 with hot outlet air, with a current far from what its duty gives, and with a fault that the chopper reports. -/
theorem witness_ThermalFrameTripsAndReturnsBanks_causes :
    (let s := withRole (still .ready 6499) BankId.a.airRole 4000
     (s.bank .a).available = true ∧ ((after .thermalFrame s).bank .a).theta < (s.bankSettings .a).tripTheta ∧
       ((after .thermalFrame s).bank .a).airOver = true ∧ (s.bankSettings .a).airTrip ≤ (s.sample BankId.a.airRole).value) ∧
    (let s := { hot with grid := { hot.grid with sums := { hot.grid.sums with iA := 100 } } }
     0 < s.grid.sums.frames ∧ circuitCheckFails s .a ∧ ((after .thermalFrame s).bank .a).theta < (s.bankSettings .a).tripTheta ∧
       ((after .thermalFrame s).bank .a).airOver = false) ∧
    ¬ circuitCheckFails hot .a ∧ (State.reset.bank .a).stage = .offline ∧ isOffline State.reset .a ∧ ¬ isOffline parked .a ∧
    (let chopper := presentStation (.chopper { blowerA := true, blowerB := true, faultA := true, faultB := false, ready := true })
     let s := { parked with link := { parked.link with stations := parked.link.stations.set 2 chopper } }
     s.bankFaultFlag .a = true ∧ (s.bank .a).stage = .ready) := by
  unfold circuitCheckFails isOffline
  decide

theorem witness_DescentRowFollowsPower :
    (driving.drive.mode ≠ .unconfigured ∧ parked.drive.mode.drives = false ∧ driving.drive.mode.drives = true) ∧
    ((20 : Int) - driving.inForce.descent.rollingResistance ≤ 0 ∧ (0 : Int) < 21 - driving.inForce.descent.rollingResistance) ∧
    (after .thermalFrame { hot with
      drive := driving.drive, grid := { hot.grid with bankA := Bank.initial, bankB := Bank.initial }
      settled := some { defaultSettings with grids := { defaultSettings.grids with
        bankA := { defaultSettings.grids.bankA with enabled := false }
        bankB := { defaultSettings.grids.bankB with enabled := false } } } }).grid.pAvail = 0 ∧
    (after .thermalFrame { hot with drive := driving.drive }).grid.pAvail ≠ 0 ∧
    (let t := after .thermalFrame hot
     (t.bank .a).stage = .ready ∧ (t.bank .b).stage = .derated ∧ (t.bank .b).theta < (hot.bankSettings .b).tripTheta) ∧
    (let s := { hot with grid := { hot.grid with bankA := { hot.grid.bankA with stage := .lockedOut } } }
     ((after .thermalFrame s).bank .a).stage = .lockedOut) ∧
    (∀ k, 0 ≤ (hot.bankSettings k).ratedPower ∧ 0 ≤ (hot.bankSettings k).noBlower) ∧ 0 ≤ hot.inForce.grids.inverterRetardMax := by
  refine ⟨by decide, by decide, by decide, by decide, by decide, by decide, fun k => ?_, by decide⟩
  cases k <;> decide

theorem witness_SteeringFrame :
    State.reset.timers.steering = none ∧
    (driving.timers.steering ≠ none ∧ driving.steer.first = false ∧ driving.steer.state = .normal ∧
      driving.drive.mode ≠ .unconfigured ∧ driving.active.steer.demandSource = .slate ∧ driving.drive.mode ≠ .fallback) ∧
    ((driving.sample .roadWheelAngle).state = .valid ∧ (State.reset.sample .roadWheelAngle).state ≠ .valid) ∧
    (let s := withRole (withRole driving .steerSupply 15200) .accumulator 16000
     (after .steeringFrame s).steer.state = .normal ∧ 0 < (after .steeringFrame s).steer.measured ∧
     (after .steeringFrame (withRole s .roadWheelAngle 0)).steer.measured = 0 ∧
     (after .steeringFrame (withRole s .roadWheelAngle (-1))).steer.measured < 0) ∧
    (after .steeringFrame { driving with scan := Scan.initial }).steer.state = .failed := by decide

/-- The servo with the supply and the accumulator at two pressures. -/
def supplied (supply accumulator : Int) : State := withRole (withRole driving .steerSupply supply) .accumulator accumulator

theorem witness_SteeringSupplyAndTracking :
    (driving.timers.steering ≠ none ∧ driving.steer.supplyLow = false ∧ driving.steer.lowSince = none) ∧
    ((supplied 11999 8999).sample .steerSupply).value < driving.active.steer.supplyLow ∧
    driving.active.steer.supplyLow ≤ ((supplied 12000 9000).sample .steerSupply).value ∧
    (elapsed driving.now 4801 < 200 ∧ 200 ≤ elapsed driving.now 4800 ∧ elapsed driving.now 3001 < 2000 ∧
      2000 ≤ elapsed driving.now 3000 ∧ elapsed driving.now 4501 < 500 ∧ 500 ≤ elapsed driving.now 4500) ∧
    (((supplied 15000 8999).sample .accumulator).value < driving.active.steer.accumulatorMin ∧
      driving.active.steer.supplyRecover ≤ ((supplied 15000 8999).sample .steerSupply).value) ∧
    (let s : State := { supplied 11999 8999 with steer := { driving.steer with state := .reserve, supplyLow := true } }
     s.steer.state = .reserve ∧ (after .steeringFrame s).steer.supplyLow = true ∧ (s.sample .roadWheelAngle).state = .valid) ∧
    (let s := withRole (supplied 15200 16000) .roadWheelAngle 3000
     driving.active.steer.trackErrorLimit <
       magnitude ((after .steeringFrame s).steer.target - (after .steeringFrame s).steer.measured)) ∧
    (fallen.drive.mode = .fallback ∧ (fallen.sample .handwheelAngle).state = .valid ∧
      (State.reset.sample .handwheelAngle).state ≠ .valid) ∧
    (failedServo.steer.state = .failed ∧ Steer.initial.first = true ∧
      (let s : State := { supplied 15200 16000 with steer := { driving.steer with first := true, state := .off } }
       (after .steeringFrame s).steer.state = .normal) ∧ driving.steer.rowFor ≠ some .normal) := by decide

theorem witness_LoadPassWeighsAndClasses :
    (weighing.load.acting = true ∧ weighing.drive.mode ≠ .unconfigured ∧ ∀ r ∈ strutRoles, (weighing.sample r).state = .valid) ∧
    (∃ r ∈ strutRoles, (State.reset.sample r).state ≠ .valid) ∧
    ((weighing.loadPass).load.cycle = .empty ∧ (weighing.loadPass).load.emptyConfirmed = true) ∧
    (let s : State := { weighing with load := { weighing.load with loadClass := .class1 } }
     s.loadPass.load.loadClass ≠ s.load.loadClass) := by decide

/-- The truck of 6.1 at rest in a Cycle State, with its Tare set and a band run of 2 s on a side. -/
def bandSince (cycle : Cycle) (side : BandSide) (tare : Int) : State :=
  { weighing with load := { weighing.load with
    cycle := cycle, tare := tare, tareSet := true, band := some (3000, side), weighBuffer := List.replicate 16 1500 } }

theorem witness_LoadCycle :
    (bandSince .empty .below 2752).load.acting = true ∧ bandRun (bandSince .empty .below 2752) .below ∧
    bandRun (bandSince .empty .atOrAbove 2000) .atOrAbove ∧ bandRun (bandSince .loading .below 2752) .below ∧
    bandRun (bandSince .dumping .below 2752) .below ∧ bandRun (bandSince .dumping .atOrAbove 2000) .atOrAbove ∧
    ¬ bandRun (bandSince .dumping .below 2000) .below ∧
    (let s : State := atSpeed { weighing with load := { weighing.load with cycle := .loading, moveSince := some 0 } } 30
     moveRun s ∧ s.load.weighBuffer = [] ∧ ¬ bandRun s .below) ∧
    (bandSince .hauling .below 0).exchange.slate.bodyRaised = false ∧ (bandSince .loading .below 0).load.weighBuffer ≠ [] ∧
    (weighs (bandSince .empty .below 2752) ∧ ¬ weighs parked ∧ strutsValid parked ∧ ¬ strutsValid State.reset) ∧
    (weighing.desk.tare.isSome = true ∧ 5 ≤ (atSpeed weighing 5).speed.v ∧ weighing.speed.v < 5 ∧
      ({ weighing with load := { weighing.load with tareProgress := some (14, 0) } } : State).load.tareProgress = some (14, 0)) := by
  unfold bandRun moveRun weighs strutsValid
  have h : (bandSince .empty .below 2752).load.band = some (3000, .below) := rfl
  refine ⟨by decide, ⟨by decide, by decide, 3000, by decide⟩, ⟨by decide, by decide, 3000, by decide⟩,
    ⟨by decide, by decide, 3000, by decide⟩, ⟨by decide, by decide, 3000, by decide⟩,
    ⟨by decide, by decide, 3000, by decide⟩, fun x => absurd x.2.1 (by decide), ⟨⟨by decide, 0, by decide⟩, by decide,
    fun x => absurd x.1 (by decide)⟩, by decide, by decide, by decide, by decide⟩

/-- The part with the strobe of a Scan List entry in progress. -/
def converting (k : Nat) : State := { parked with scan := { parked.scan with index := k, busy := true } }

set_option maxRecDepth 20000 in
theorem witness_StrobesAndScanPass :
    State.reset.timers.strobe = none ∧ parked.timers.strobe ≠ none ∧ parked.scan.busy = false ∧
    ((converting 0).settings = some defaultSettings ∧
      (defaultSettings.scan.entries[(converting 0).scan.index]?).isSome = true ∧
      (converting 0).scan.index + 1 < defaultSettings.scan.entries.length ∧ (converting 0).scan.busy = true ∧
      (defaultSettings.scan.entries[0]?).map (fun e => e.averaging) = some 1 ∧ ([volts 10100] : List Conversion).length = 1 ∧
      ([] : List Conversion).length < 1) ∧
    ((0 : BitVec 14) ∈ ([0] : List (BitVec 14)) ∧ (0 : BitVec 14) ∉ ([10100] : List (BitVec 14)) ∧
      (16383 : BitVec 14) ∉ ([10100] : List (BitVec 14))) ∧
    (defaultSettings.scan.entries.length = (converting (defaultSettings.scan.entries.length - 1)).scan.index + 1 ∧
      (converting (defaultSettings.scan.entries.length - 1)).scan.busy = true) ∧
    applying.desk.apply.isSome = true ∧ ((0 : Int) ≤ 0 ∧ (4999999 : Int) < 5000000 ∧ (5000000 : Int) ≤ 5000000) ∧
    (let t := after (.strobeCompletion [volts 0]) (converting 0)
     (t.sample .dcLinkVoltage).state = .outOfRange ∧ ((converting 0).sample .dcLinkVoltage).state ≠ .outOfRange) ∧
    (({ raised with detail := 5 } : FaultRecord).active = true ∧
      ((after (.strobeCompletion [volts 10100]) (converting 0)).sample .dcLinkVoltage).state ≠ .outOfRange) := by decide

/-- The channels of the descent, with the silence timer of FRONT R due. -/
def silentSince (due : Nat) : State :=
  { descending with us := 5240000, timers := { descending.timers with silence := Vector.replicate 4 (some due) } }

theorem witness_SpeedEdgeAndSilence :
    (((descending.channel .frontL).lastEdge = some 4990000) ∧ 4990024 - 4990000 < 25 ∧ 25 ≤ 4990025 - 4990000) ∧
    ((State.reset.channel .frontL).lastEdge = none ∧ (descending.channel .frontL).state ≠ .failed) ∧
    (let t := after (.speedEdge .frontL) descending
     (t.channel .frontL).state ≠ .failed ∧ (t.channel .frontR).state ≠ .failed) ∧
    ((silentSince 5240001).timers.silence[(1 : Fin 4)] = some 5240001 ∧ (silentSince 5240001).us < 5240001) ∧
    ((silentSince 5240000).timers.silence[(1 : Fin 4)] = some 5240000 ∧ 5240000 ≤ (silentSince 5240000).us) ∧
    (30 < ((silentSince 0).channel .frontR).speed ∧ ((silentSince 0).channel .frontR).state ≠ .failed ∧ (runningAt 30).speed ≤ 30) ∧
    ({ Speed.initial with channels := Vector.replicate 4 { runningAt 0 with state := .failed } } : Speed).channels[(0 : Fin 4)].state
      = .failed := by decide

/-- FRONT R FAILED with a number of periods, FRONT L as given; an edge of FRONT R comes at 5,002,870 µs. -/
def returning (periods : List Nat) (l : ChannelRecord) : State :=
  { descending with
    us := 5002870
    speed := { channels := #v[l, { runningAt 280 with state := .failed, periods := periods }, runningAt 272, runningAt 240]
               v := 280, mark := .frontLOnly } }

/-- A FAILED channel at its third and its fourth period, and a SILENT partner beside one that leaves 280. -/
theorem witness_SpeedEdgeAndSilence_partners :
    partnerOf .frontR .frontL .speedSensorFrontL ∧ partnerOf .frontL .frontR .speedSensorFrontR ∧
    (let t := after (.speedEdge .frontR) (returning [12800, 12900] (runningAt 280))
     (t.channel .frontR).state = .failed ∧ t.speed.mark = .frontLOnly) ∧
    (let t := after (.speedEdge .frontR) (returning [12800, 12900, 12850] (runningAt 280))
     (t.channel .frontR).state = .running ∧ t.speed.mark = .frontBoth) ∧
    (let t := after (.speedEdge .frontR) (returning [12800, 12900] ChannelRecord.initial)
     30 < (t.channel .frontR).speed ∧ ((returning [] ChannelRecord.initial).channel .frontL).state = .silent ∧
       (t.channel .frontL).state = .failed ∧ t.speed.mark = .degraded) := by
  unfold partnerOf
  decide

/-- The part with a fresh slate whose Heartbeat advances, in a state of the window. -/
def advancing (w : WindowState) : State :=
  { parked.writeWords 0 [5, 1, 0, 0, 0, 0, 0, 0, 0, 0, 5] with supervision := { parked.supervision with window := w } }

theorem witness_WindowExpiriesAndAdvances :
    (let s := advancing .longWindow
     s.readWord 0 = s.readWord 10 ∧ s.exchange.lastStamp ≠ some (s.readWord 0) ∧
       (s.readWord 1).toNat ≠ s.exchange.slate.heartbeat ∧ s.supervision.running = true ∧ s.supervision.window ≠ .earlyZone) ∧
    State.reset.supervision.running = false ∧
    ((advancing .earlyZone).supervision.running = true ∧ (advancing .earlyZone).supervision.window = .earlyZone) ∧
    ((advancing .validZone).supervision.window ≠ .earlyZone ∧ (advancing .validZone).supervision.window ≠ .longWindow ∧
      (advancing .longWindow).supervision.window ≠ .validZone) := by decide

theorem witness_SupervisionFailure :
    failsSupervision fallen .longWindowExpiry .late ∧ failsSupervision driving .wMaxExpiry .late ∧
    failsSupervision (advancing .earlyZone) .slatePickUp .early ∧
    (fallen.drive.mode ≠ .selfLoad ∧ fallen.drive.mode ≠ .armed ∧ driving.drive.mode = .armed) ∧
    ((driving.fault FailureKind.late.latchCode).active = false) ∧
    8 ≤ (after .longWindowExpiry (counted fallen 7 0)).supervision.failureCount := by
  refine ⟨⟨by decide, Or.inl (by decide)⟩, ⟨by decide, Or.inr (Or.inl (by decide))⟩,
    ⟨by decide, Or.inr (Or.inr (by decide))⟩, by decide, by decide, by decide⟩

theorem witness_DecayStepLowersRowSeven :
    parked.supervision.decayRunning = false ∧
    (fallen.supervision.decayRunning = true ∧ fallen.drive.mode = .fallback ∧ (fallen.row .fallbackSpeed).active = true ∧
      0 ≤ (fallen.row .fallbackSpeed).value ∧ (fallen.row .fallbackSpeed).value ≤ 900 ∧
      0 < fallen.inForce.supervision.fallbackDecel ∧ 0 < (fallen.row .fallbackSpeed).value) ∧
    ((withRow fallen .fallbackSpeed 0).row .fallbackSpeed).value = 0 := by decide

/-- A character being sent with an echo. -/
def sent (echo : Option RxChar) : Sending := { station := .inverterL, char := { data := 17, mark := true }, echo := echo }

theorem witness_EchoCheck :
    (parked.pollList[parked.link.pollIndex]? = some .inverterL ∧ linkIsFree parked ∧
      State.reset.pollList[State.reset.link.pollIndex]? = none ∧
      ¬ linkIsFree { parked with link := { parked.link with stuck := true } }) ∧
    (parked.link.sending = none ∧ parked.link.awaited = none) ∧
    (let s := onLine parked (some { waiting .inverterL 60 with toSend := [{ data := 5, mark := false }], windowOpen := false })
       (some (sent none)) []
     echoPassed s { s.link with sending := none, awaited := some (sent none) }) ∧
    (let s := onLine parked (some { waiting .inverterL 60 with windowOpen := false }) (some (sent (some (plain true 17)))) []
     echoPassed s { s.link with sending := none, awaited := none }) ∧
    (let s : State := { parked with link := { parked.link with awaited := some (sent (some (plain true 17))) } }
     echoPassed s { s.link with awaited := none }) ∧
    echoFails { parked with link := { parked.link with awaited := some (sent none) } } .inverterL ∧
    echoFails (onLine parked none (some (sent (some (plain true 18)))) []) .inverterL ∧
    ((parked.fault .linkEcho).active = false ∧ driving.drive.mode.drives = true ∧ parked.drive.mode.drives = false) := by
  have ok : echoMatches (sent (some (plain true 17))) := ⟨plain true 17, by decide⟩
  have bad : ¬ echoMatches (sent none) := by
    rintro ⟨c, h, _⟩
    cases h
  have differs : ¬ echoMatches (sent (some (plain true 18))) := by
    rintro ⟨c, h, hd, _⟩
    cases h
    exact absurd hd (by decide)
  unfold linkIsFree
  refine ⟨by decide, by decide, ⟨(fun _ h => by cases h), Or.inl ⟨_, rfl, rfl, rfl⟩⟩,
    ⟨(fun _ h => by cases h), Or.inr (Or.inl ⟨_, rfl, ok, rfl⟩)⟩, ⟨fun _ h => ?_, Or.inr (Or.inr ⟨rfl, rfl, rfl⟩)⟩,
    Or.inl ⟨_, rfl, bad, rfl⟩, Or.inr ⟨(fun _ h => by cases h), _, rfl, by decide, differs, rfl⟩, by decide⟩
  cases h
  exact ok

theorem witness_ExchangeEndsWithOutcome :
    (driving.selfLoad.phase = .idle ∧ endsBadly driving .replyTimerExpiry (waiting .inverterR 60) .missing) ∧
    (let s : State := { parked with link := { parked.link with muted := true } }
     endsBadly s .muteEnd { waiting .inverterL 60 with gotFirst := true, stray := true } .stray) ∧
    (let e := { waiting .inverterL 61 with gotFirst := true }
     endsBadly { answered with link := { answered.link with exchange := some e } } .frameEnd e .counter) ∧
    (let e := { waiting .inverterL 61 with gotFirst := true, endsAfter := some 1 }
     endsBadly { lateCharacter with link := { lateCharacter.link with exchange := some e } } .assemblerDrain e .counter) ∧
    (lateCharacter.link.queue ≠ [] ∧ (waiting .inverterL 60).endsAfter = none) ∧
    (let s : State := onLine { driving with link := { driving.link with
        stations := driving.link.stations.set 1 { driving.link.stations[1] with missRun := 2 } } } (some (waiting .inverterR 60)) none []
     (s.station .inverterR).state = .present ∧ ((after .replyTimerExpiry s).station .inverterR).state = .lost) ∧
    ((State.reset.station .inverterL).state ≠ .present ∧ State.reset.link.exchange = none ∧ State.reset.link.muted = false) := by
  refine ⟨⟨by decide, Or.inl (by decide)⟩, Or.inr (Or.inl (by decide)), Or.inr (Or.inr ⟨answered.link.frame, ⟨rfl, rfl, Or.inl (by decide)⟩, by decide⟩),
    Or.inr (Or.inr ⟨answered.link.frame, ⟨rfl, rfl, Or.inr ⟨rfl, rfl, rfl, by decide, _, _, rfl, rfl⟩⟩, by decide⟩), by decide, by decide, by decide⟩

/-- A test and a servo that lose their station, and a plain frame for each reason that the judgement of one gives. -/
theorem witness_ExchangeEndsWithOutcome_judged :
    (stairTest.drive.mode = .selfLoad ∧ stairTest.selfLoad.phase ≠ .idle ∧ parked.steer.state = .normal ∧
      State.reset.steer.state = .off ∧ failedServo.steer.state = .failed) ∧
    (let f : Frame := { Frame.empty with chars := inverterReply }
     frameIsPlain f ∧ frameIsGood f .inverterL 60 ∧ ¬ lengthFails f false ∧ lengthFails f true ∧
       frameKind f = StationId.inverterL.commandKind + 8 ∧ frameKind f ≠ StationId.valve.commandKind + 8 ∧
       (f.chars.map (fun c : RxChar => c.data.toNat)).sum % 256 = 0 ∧
       ((f.chars.map (fun c : RxChar => c.data)).getD (f.chars.length - 2) 0).toNat ≠ 61) ∧
    (lengthFails { Frame.empty with chars := inverterReply.take 8 } false ∧
      (inverterReply.take 8 |>.map (fun c : RxChar => c.data.toNat)).sum % 256 ≠ 0) ∧
    (∃ c ∈ [{ plain true 145 with noise := true }], c.noise = true ∨ c.framing = true ∨ c.parity = true) ∧
    (∃ c ∈ [plain true 145, plain true 1].drop 1, c.mark = true) ∧
    (¬ frameHasHeader { Frame.empty with chars := [{ plain false 0 with framing := true }] } ∧
      frameHasHeader { Frame.empty with chars := [{ plain true 145 with noise := true }] }) := by
  have len : lengthFails { Frame.empty with chars := inverterReply.take 8 } false := Or.inr ⟨9, by decide⟩
  unfold frameIsPlain frameIsGood frameHasHeader
  refine ⟨by decide, ⟨by decide, by decide, ?_, Or.inl rfl, by decide⟩, ⟨len, by decide⟩, by decide⟩
  rintro (h | ⟨m, hm, hl⟩)
  · cases h
  · have : m = 9 := by
      have e : frameLength (frameKind { Frame.empty with chars := inverterReply }) = some 9 := by decide
      rw [e] at hm
      exact (Option.some.inj hm).symm
    subst this
    exact absurd hl (by decide)

/-- A GOOD frame that ends at the span, and the same in the drain of its last character. -/
theorem witness_GoodReplyAccepted_ends :
    endsFrame answered .frameEnd { waiting .inverterL 60 with gotFirst := true } answered.link.frame ∧
    endsFrame lateCharacter .assemblerDrain { waiting .inverterL 60 with gotFirst := true, endsAfter := some 1 }
      answered.link.frame := by
  exact ⟨⟨rfl, rfl, Or.inl (by decide)⟩, rfl, rfl, Or.inr ⟨rfl, rfl, rfl, by decide, _, _, rfl, rfl⟩⟩

theorem witness_GoodReplyAccepted :
    (answered.link.frame.judge .inverterL 60 false = none ∧ StationId.inverterL = wheelStation .left) ∧
    ((after .frameEnd answered).station .inverterL).state = .present ∧
    replyCarries .inverterL (answered.link.frame.chars.map (fun c => c.data))
      (.torque { torque := -327, rpm := 790, winding := 186, fault := false, derated := false, ready := true }) ∧
    (let s : State := { answered with link := { answered.link with
        stations := answered.link.stations.set 0 { answered.link.stations[0] with state := .lost, goodRun := 3 } } }
     ((after .frameEnd s).station .inverterL).state = .lost) := by
  refine ⟨by decide, by decide, ⟨_, rfl, ?_⟩, by decide⟩
  decide

/-- R127, from the layout of the two replies: blower B running, fault A and ready; spool -2 with the pump reported. -/
theorem witness_GoodReplyAccepted_layout :
    replyCarries .chopper [0xA3, 0x16, 60]
      (.chopper { blowerA := false, blowerB := true, faultA := true, faultB := false, ready := true }) ∧
    replyCarries .valve [0xB4, 0xFE, 0xFF, 2, 60] (.valve { spool := -2, fault := false, pump := true }) := by
  refine ⟨⟨_, rfl, ?_⟩, ⟨_, rfl, ?_⟩⟩ <;> decide

/-- The replies of the chopper and of the valve, taken, and a wheel whose winding is past Motor Trip. -/
theorem witness_GoodReplyAccepted_stations :
    (let l := [plain true 0xA3, plain false 0x13, plain false 60]
     ∃ x, ({ Frame.empty with chars := l ++ [plain false x] } : Frame).judge .chopper 60 false = none) ∧
    (let l := [plain true 0xB4, plain false 5, plain false 0, plain false 1, plain false 60]
     ∃ x, ({ Frame.empty with chars := l ++ [plain false x] } : Frame).judge .valve 60 false = none) ∧
    (driving.active.load.motorTrip ≤ (220 - 40) * 10 ∧ (179 - 0) * 10 < driving.active.load.motorTrip) ∧
    (0 : Int) ≤ (1000000 - driving.active.load.continuousRating * driving.active.load.continuousRating) *
      driving.active.load.peakSeconds := by
  refine ⟨⟨0x100 - (0xA3 + 0x13 + 60) % 256, by decide⟩, ⟨0x100 - (0xB4 + 5 + 1 + 60) % 256, by decide⟩, by decide⟩

theorem witness_ReceiverAndAssembler :
    ((sent none).echo = none ∧ (sent (some (plain true 17))).echo ≠ none ∧ parked.link.sending = none ∧
      parked.link.halting = false ∧ parked.link.muted = false ∧ parked.link.exchange = none) ∧
    ((waiting .inverterL 60).windowOpen = true ∧ (waiting .inverterL 60).gotFirst = false) ∧
    ((List.replicate 15 (plain false 0)).length < 16 ∧ 16 ≤ (List.replicate 16 (plain false 0)).length) ∧
    ((plain true 145).data.toNat % 16 = StationId.inverterL.number ∧ (plain true 146).data.toNat % 16 ≠ StationId.inverterL.number ∧
      (plain false 145).mark = false ∧ (plain true 145).noise = false) ∧
    ((onLine parked (some (waiting .inverterL 60)) none [plain false 1]).link.queue = plain false 1 :: [] ∧
      parked.link.held = false ∧ (waiting .inverterL 60).endsAfter = none ∧ (List.replicate 10 (plain false 0)).length < 11 ∧
      (List.replicate 11 (plain false 0)).length = 11) := by decide

set_option maxRecDepth 20000 in
theorem witness_LineStuckAndHalt :
    (parked.link.stuck = false ∧ parked.link.sending = none ∧ parked.link.halting = false ∧ parked.link.haltPending = false) ∧
    (after .lineStuckDetected parked).link.stuck = true ∧
    ((after .softRestart parked).link.haltPending = true ∧ (after .softRestart parked).link.sending = none) ∧
    (after .haltStart (after .softRestart parked)).link.halting = true ∧
    ((driving.fault .lineStuck).active = false ∧ driving.drive.mode.drives = true ∧ parked.drive.mode.drives = false) := by decide

theorem witness_PhaseEnd :
    parked.selfLoad.phase = .idle ∧ (stairTest.selfLoad.phase = .body ∧ stairTest.selfLoad.pattern.leadOut ≠ 0) ∧
    (let s : State := { stairTest with selfLoad := { stairTest.selfLoad with phase := .leadOut } }
     s.selfLoad.phase = .leadOut ∧ s.desk.start.isSome = true ∧ s.drive.mode = .selfLoad) ∧
    ({ stairTest with selfLoad := { stairTest.selfLoad with phase := .leadIn } } : State).selfLoad.phase = .leadIn ∧
    (stairTest.selfLoad.stepOpen = true ∧
      stairTest.selfLoad.pattern.isLastStep stairTest.selfLoad.bodyLength 2 = false ∧
      stairTest.selfLoad.pattern.isLastStep stairTest.selfLoad.bodyLength 3 = true) ∧
    (stairTest.selfLoad.pattern.shape = .stair ∧ stairTest.selfLoad.header.recorded < 32) := by decide

theorem witness_SelfLoadFrame :
    (let s := withRole stairTest .dcLinkVoltage 2049
     s.drive.mode = .selfLoad ∧ s.selfLoad.phase = .body ∧ ¬ persistReached s ∧ frameVoltage s = 2049 ∧ highAfter s = false ∧
       (after .dcLinkFrame s).drive.mode = .selfLoad ∧ s.selfLoad.pattern.selectA = true ∧
       ((after .dcLinkFrame s).bank .a).available = true) ∧
    (5 ≤ (atSpeed stairTest 5).speed.v ∧ driving.exchange.slate.parkApplied = false) ∧
    (let s := { withRole stairTest .dcLinkVoltage 2049 with grid := { stairTest.grid with bankA := (lockedAt 5000).grid.bankA } }
     s.selfLoad.pattern.selectA = true ∧ ((after .dcLinkFrame s).bank .a).stage = .lockedOut) := by
  unfold persistReached
  decide

/-- The stair with the link in HIGH since a time, at a voltage. -/
def stairHigh (since : Nat) (v : Int) : State :=
  withRole { stairTest with grid := { stairTest.grid with ovHigh := true, ovEntry := since } } .dcLinkVoltage v

/-- The frame that enters HIGH, one in HIGH a millisecond before OV Persist, one at it, one that ends HIGH, and one in NEVER. -/
theorem witness_SelfLoadFrame_high :
    (let s := withRole stairTest .dcLinkVoltage 2050
     highAfter s = true ∧ ¬ persistReached s ∧ ((after .dcLinkFrame s).bank .a).duty = 1000) ∧
    (highAfter (stairHigh 4951 2000) = true ∧ ¬ persistReached (stairHigh 4951 2000)) ∧ persistReached (stairHigh 4950 2000) ∧
    (highAfter (stairHigh 4950 1999) = false ∧ ¬ persistReached (stairHigh 4950 1999)) ∧
    (let s := { stairTest with scan := State.reset.scan }
     (s.sample .dcLinkVoltage).state = .never ∧ ¬ persistReached s ∧ ((after .dcLinkFrame s).bank .a).duty = 0) := by
  unfold persistReached
  decide

theorem witness_SelfLoadFrame_supervision : failsSupervision stairTest .wMaxExpiry .late :=
  ⟨by decide, Or.inr (Or.inl (by decide))⟩

/-- The part with the recorder enabled at a Divider of 1, two quantities selected, at an index of Half A. -/
def recording (index : Nat) : State :=
  { parked with
    settings := some { defaultSettings with trace := { defaultSettings.trace with enable := true, divider := 1, selections := [9, 14] } }
    trace := { Trace.initial with index := index } }

theorem witness_TraceAndStatusPage :
    parked.active.trace.enable = false ∧ ((recording 0).active.trace.enable = true ∧
      (recording 0).active.trace.divider ≤ (recording 0).trace.frameCount + 1 ∧ (recording 0).readWord 0x1000 = 0 ∧
      ((recording 0).writeWords 0x1000 [1]).readWord 0x1000 ≠ 0) ∧
    (0 + 1 < 2047 / (1 + (recording 0).active.trace.selections.length) ∧
      (recording 681).trace.index + 1 = 2047 / (1 + (recording 681).active.trace.selections.length)) ∧
    (let c := { (recording 0).active.trace with divider := 2 }
     (recording 0).trace.frameCount + 1 < c.divider) := by decide

set_option maxRecDepth 20000 in
theorem witness_invariants :
    Ram.wf parked.ram = true ∧ torqueOff parked ∧ commandsWithinLimits parked ∧ limitsInRange parked ∧ testSound parked ∧
    (∃ t, step parked = .next t) := by
  refine ⟨by decide, fun _ => by decide, ?_, ?_, ?_, ⟨_, rfl⟩⟩
  · unfold commandsWithinLimits; decide
  · unfold limitsInRange; decide
  · unfold testSound; decide

theorem witness_invariants_of_every_record :
    rowsInRange parked ∧ faultsSound parked ∧ fallbackSound parked ∧ faultsPublished parked := by
  refine ⟨fun r => ?_, fun c => ?_, by unfold fallbackSound; decide, fun c => ?_⟩
  · cases r <;> decide
  · cases c <;> decide
  · cases c <;> decide

theorem witness_ModeChangesOnlyByTheTable :
    (Instr.governorFrame ≠ .powerOnReset ∧ restarts parked .governorFrame = false ∧ Instr.governorFrame ≠ .boardSweep) ∧
    restarts parked .boardReset = true ∧
    (exec (.armDrive 3) (posting parked 3 2 []) = .next (after (.armDrive 3) (posting parked 3 2 [])) ∧
      (after (.armDrive 3) (posting parked 3 2 [])).drive.mode ≠ (posting parked 3 2 []).drive.mode) := by
  refine ⟨by decide, by decide, rfl, by decide⟩

theorem witness_LeavingFallbackEndsRowSeven :
    let c := Instr.clearFallback 3
    let s := posting fallen 3 4 []
    exec c s = .next (after c s) ∧ c ≠ .powerOnReset ∧ restarts s c = false ∧ s.drive.mode = .fallback ∧
    (after c s).drive.mode ≠ .fallback := by
  refine ⟨rfl, by decide, by decide, by decide, by decide⟩

end Sys2Proof.Tests
end

