-- ==== Sys2Proof/Proofs/LimitTable.lean ====
section
/-! PROOF. R19: a governor frame sets LIMIT exactly where the binding row of Ls has changed, and every reset leaves row 0. A frame
takes its limits once, in `State.takeLimits`; every other operation of the frame keeps the pair of the limits and the LIMIT bit. -/

namespace Sys2Proof.Machine

/-! ## The limits with the LIMIT bit -/

/-- What R19 speaks of: the limits last taken, and whether LIMIT stands in ATTN. -/
def State.limitView (s : State) : Limits × Bool := (s.drive.limits, s.window.attn.getLsbD 3)

theorem State.limitView_congr {s t : State} (hl : t.drive.limits = s.drive.limits) (hw : t.window = s.window) :
    t.limitView = s.limitView := by
  rw [State.limitView, State.limitView, hl, hw]

/-- R187: a cause sets its own bit of ATTN and no other; bit 3 is that of LIMIT. -/
theorem State.raiseCause_limitBit (s : State) (c : Cause) :
    (s.raiseCause c).window.attn.getLsbD 3 = (s.window.attn.getLsbD 3 || decide (c = .limit)) := by
  cases c <;> simp [State.raiseCause, Window.raise, Cause.mask]

@[simp] theorem State.raiseCause_limitView (s : State) {c : Cause} (h : c ≠ .limit) :
    (s.raiseCause c).limitView = s.limitView := by
  have drive : (s.raiseCause c).drive = s.drive := by simp
  rw [State.limitView, State.raiseCause_limitBit, decide_eq_false h, Bool.or_false, drive, State.limitView]

@[simp] theorem State.setDrive_limitView (s : State) {x : Drive} (h : x.limits = s.drive.limits) :
    (s.setDrive x).limitView = s.limitView := State.limitView_congr h rfl

/-! ## The shared operations keep it -/

@[simp] theorem State.setTrace_limitView (s : State) (x : Trace) : (s.setTrace x).limitView = s.limitView := rfl

@[simp] theorem State.writeWords_limitView (s : State) (a : Nat) (ws : List Word) :
    (s.writeWords a ws).limitView = s.limitView := rfl

@[simp] theorem State.putFault_limitView (s : State) (c : FaultCode) (r : FaultRecord) :
    (s.putFault c r).limitView = s.limitView := rfl

@[simp] theorem State.requestHalt_limitView (s : State) : s.requestHalt.limitView = s.limitView :=
  State.limitView_congr (by simp) (by simp)

@[simp] theorem State.zeroTorque_limitView (s : State) : s.zeroTorque.limitView = s.limitView := rfl

@[simp] theorem State.stopDecay_limitView (s : State) : s.stopDecay.limitView = s.limitView :=
  State.limitView_congr (by simp) (by simp)

@[simp] theorem State.writeZoneRow_limitView (s : State) : s.writeZoneRow.limitView = s.limitView :=
  State.limitView_congr (by simp) (by simp)

/-- R4: a change of Mode sets MODE, which is another cause. -/
@[simp] theorem State.changeMode_limitView (s : State) (m : Mode) : (s.changeMode m).limitView = s.limitView := by
  unfold State.changeMode
  dsimp only
  (repeat' split) <;> simp

@[simp] theorem State.trip_limitView (s : State) (c : FaultCode) : (s.trip c).limitView = s.limitView := by
  unfold State.trip
  dsimp only
  split <;> simp

/-- R194: a raised fault sets FAULT, and MODE where it trips: neither is LIMIT. -/
@[simp] theorem State.reportPresent_limitView (s : State) (c : FaultCode) (detail : Nat) :
    (s.reportPresent c detail).limitView = s.limitView := by
  unfold State.reportPresent
  dsimp only
  (repeat' split) <;> simp

@[simp] theorem State.reportAbsent_limitView (s : State) (c : FaultCode) : (s.reportAbsent c).limitView = s.limitView :=
  State.limitView_congr (by simp) (by simp)

@[simp] theorem State.report_limitView (s : State) (c : FaultCode) (present : Bool) (detail : Nat) :
    (s.report c present detail).limitView = s.limitView := by
  unfold State.report
  split <;> simp

/-! ## The parts of a governor frame that take no limits -/

@[simp] theorem State.settleDirection_limitView (s : State) : s.settleDirection.limitView = s.limitView := by
  unfold State.settleDirection
  dsimp only
  (repeat' split) <;> rfl

@[simp] theorem State.writeCeilings_limitView (s : State) : s.writeCeilings.limitView = s.limitView :=
  State.limitView_congr (by simp) (by simp)

@[simp] theorem State.endOverspeed_limitView (s : State) : s.endOverspeed.limitView = s.limitView :=
  State.reportAbsent_limitView _ _

@[simp] theorem State.judgeOverspeed_limitView (s : State) : s.judgeOverspeed.limitView = s.limitView := by
  unfold State.judgeOverspeed
  dsimp only
  (repeat' split) <;> simp

@[simp] theorem State.keepFrame_limitView (s : State) (f : FrameValues) (driving : Bool) :
    (s.keepFrame f driving).limitView = s.limitView := rfl

@[simp] theorem State.writePage_limitView (s : State) (f : FrameValues) : (s.writePage f).limitView = s.limitView := rfl

@[simp] theorem State.writeTraceItems_limitView (s : State) : s.writeTraceItems.limitView = s.limitView := rfl

/-- R196: a full half sets TRACE HALF, which is another cause. -/
@[simp] theorem State.storeRecord_limitView (s : State) (c : TraceSettings) (record : List Word) :
    (s.storeRecord c record).limitView = s.limitView := by
  unfold State.storeRecord
  dsimp only
  (repeat' split) <;> simp

@[simp] theorem State.loseRecord_limitView (s : State) : s.loseRecord.limitView = s.limitView := by
  unfold State.loseRecord
  dsimp only
  split <;> simp

@[simp] theorem State.formRecord_limitView (s : State) (c : TraceSettings) (values : Nat → Int) :
    (s.formRecord c values).limitView = s.limitView := by
  unfold State.formRecord
  dsimp only
  split <;> simp

@[simp] theorem State.recordFrame_limitView (s : State) (values : Nat → Int) :
    (s.recordFrame values).limitView = s.limitView := by
  unfold State.recordFrame
  dsimp only
  (repeat' split) <;> simp

@[simp] theorem State.drawFree_limitView (s : State) : s.drawFree.limitView = s.limitView := rfl

/-! ## The taking of the limits (R18, R19) -/

theorem State.takeLimits_limitBit (s : State) :
    s.takeLimits.window.attn.getLsbD 3 = true ↔
      s.window.attn.getLsbD 3 = true ∨ s.takeLimits.drive.limits.lsRow ≠ s.drive.limits.lsRow := by
  unfold State.takeLimits
  dsimp only
  by_cases h : s.effectiveLimits.lsRow = s.drive.limits.lsRow
  · simp [h]
  · simp [h, State.raiseCause_limitBit]

/-- R22: the frame's limits and LIMIT bit are those with which it opens. -/
theorem State.governorFrame_limitView (s : State) :
    s.governorFrame.limitView =
      (s.setTimers { s.timers with governor := s.again s.timers.governor s.timers.governorPeriod }).openFrame.limitView := by
  unfold State.governorFrame
  dsimp only
  rw [State.drawFree_limitView, State.recordFrame_limitView, State.writePage_limitView, State.keepFrame_limitView]
  split <;> simp

/-- R19, for the opening of a frame: the direction and the ceilings that come first leave the limits before and ATTN alone. -/
theorem State.openFrame_limitBit (s : State) (h : s.drive.mode ≠ .unconfigured) :
    s.openFrame.window.attn.getLsbD 3 = true ↔
      s.window.attn.getLsbD 3 = true ∨ s.openFrame.drive.limits.lsRow ≠ s.drive.limits.lsRow := by
  have opened : s.openFrame = s.settleDirection.writeCeilings.takeLimits := if_neg h
  have before : s.settleDirection.writeCeilings.limitView = s.limitView := by simp
  obtain ⟨hlimits, hbit⟩ := Prod.mk.inj before
  rw [opened, State.takeLimits_limitBit, hlimits, hbit]

/-- R19, for the whole frame: its timer, restarted first, bears on neither the limits nor ATTN. -/
theorem State.governorFrame_limitBit (s : State) (h : s.drive.mode ≠ .unconfigured) :
    s.governorFrame.window.attn.getLsbD 3 = true ↔
      s.window.attn.getLsbD 3 = true ∨ s.governorFrame.drive.limits.lsRow ≠ s.drive.limits.lsRow := by
  obtain ⟨hlimits, hbit⟩ := Prod.mk.inj s.governorFrame_limitView
  rw [hlimits, hbit]
  exact State.openFrame_limitBit _ h

/-! ## The resets (R5, R44) -/

theorem State.resetDrive_limits (s : State) : s.resetDrive.drive.limits = Limits.none := by
  unfold State.resetDrive
  dsimp only
  split <;> simp [State.reset]

/-- R163: no report of a fault, FALLBACK LATCHED's included, takes limits. -/
theorem State.resetSupervision_limits (s : State) (k : ResetKind) :
    (s.resetSupervision k).drive.limits = s.drive.limits := by
  have reported (t : State) (c : FaultCode) (present : Bool) : (t.report c present).drive.limits = t.drive.limits :=
    congrArg Prod.fst (t.report_limitView c present 0)
  unfold State.resetSupervision
  dsimp only
  rw [reported]
  (repeat' split) <;> simp

@[simp] theorem State.resetSpeed_drive (s : State) : s.resetSpeed.drive = s.drive := rfl

/-- R44: after a board reset or a soft restart the limits are those of no frame. -/
theorem State.restart_limits (s : State) (k : ResetKind) : (s.restart k).drive.limits = Limits.none := by
  unfold State.restart
  simp [State.resetSupervision_limits, State.resetDrive_limits]

/-- R186: with RUNCTL 0 before a soft restart, the command of either reset runs it. -/
theorem exec_restartCommand (k : ResetKind) (s : State) (h : k = .soft → s.window.runctl = 0) :
    exec (restartCommand k) s = .next (s.restart k) := by
  cases k with
  | board => rfl
  | soft => exact congrArg Host.Outcome.next (if_pos (h rfl))

end Sys2Proof.Machine

section
open Sys2Proof Sys2Proof.Machine

/-- Settles O27: the frame's limits and LIMIT bit are those of `State.takeLimits`; both kinds of restart and a power-on reset leave
the limits of no frame. -/
theorem limitCauseFollowsBindingRow : Obligations.LimitCauseFollowsBindingRow := by
  refine ⟨fun s h => ⟨s.governorFrame, rfl, s.governorFrame_limitBit h⟩, fun s => ⟨s.powerOn, rfl, rfl⟩, fun k s h => ?_⟩
  exact ⟨s.restart k, exec_restartCommand k s h, congrArg Limits.lsRow (s.restart_limits k)⟩

end
end

