-- ==== Sys2Proof/Proofs/TareLoad.lean ====
section
/-! PROOF. R109: TARE LOAD at hand-over. First what every order kind shares: how a mask of unmet conditions reads, what a
completion leaves in the slot and what it keeps, and which case of R189 decides an order that is POSTED. Then R109's checks, one
law each. -/

namespace Sys2Proof.Machine

/-! ## Masks of conditions (R7, R109, R174) -/

/-- A word doubled, with a flag added, has the flag at bit 0 and the word's bits one place higher. -/
theorem getLsbD_shiftIn (w : Word) (b : Bool) (k : Nat) :
    (w * 2 + (if b then 1 else 0)).getLsbD k = if k = 0 then b else decide (k < 16) && w.getLsbD (k - 1) := by
  have value : (w * 2 + (if b then 1 else 0)).toNat = (2 * w.toNat + b.toNat) % 2 ^ 16 := by
    cases b <;> simp [BitVec.toNat_add, BitVec.toNat_mul, Nat.mul_comm]
  rw [← BitVec.testBit_toNat, value, Nat.testBit_mod_two_pow]
  cases k with
  | zero => cases b <;> simp [Nat.testBit_zero]
  | succ k =>
    have half : (2 * w.toNat + b.toNat) / 2 = w.toNat := by have := b.toNat_lt; omega
    rw [Nat.testBit_succ, half, BitVec.testBit_toNat]
    simp

/-- Bit `k` of a word of flags is its `k`-th flag, as far as a word reaches. -/
theorem flagWord_getLsbD (flags : List Bool) (k : Nat) :
    (flagWord flags).getLsbD k = (decide (k < 16) && flags.getD k false) := by
  induction flags generalizing k with
  | nil => simp [flagWord]
  | cons b rest ih =>
    have step : flagWord (b :: rest) = flagWord rest * 2 + (if b then 1 else 0) := rfl
    rw [step, getLsbD_shiftIn]
    cases k with
    | zero => simp
    | succ k =>
      rw [if_neg k.succ_ne_zero, Nat.add_sub_cancel, ih]
      by_cases h : k + 1 < 16
      · simp [h, Nat.lt_of_succ_lt h]
      · simp [h]

theorem unmetMask_getLsbD_iff (conditions : List Bool) (k : Nat) :
    (unmetMask conditions).getLsbD k = true ↔ k < 16 ∧ conditions[k]? = some false := by
  rw [unmetMask, flagWord_getLsbD]
  cases h : conditions[k]? <;> simp [h]

/-! ## The completion of an order (R190) -/

theorem detailWords_eq (given : List Word) :
    detailWords given = [given.getD 0 0, given.getD 1 0, given.getD 2 0, given.getD 3 0] := by
  match given with
  | [] | [_] | [_, _] | [_, _, _] | _ :: _ :: _ :: _ :: _ => simp [detailWords]

/-- R184: every word of every slot lies in the RAM. -/
theorem slotBase_add_lt (slot : Fin 16) {k : Nat} (h : k < 16) : slotBase slot + k < ramWords := by
  have := slot.isLt
  unfold slotBase ramWords
  omega

/-- R189: the state of a slot, its word 0, reads back as it is written. -/
theorem State.readWord_writeSlotState (s : State) (slot : Fin 16) (w : Word) :
    (s.writeWords (slotBase slot) [w]).readWord (slotBase slot) = w := by
  have inRam := slotBase_add_lt slot (show 0 < 16 by omega)
  rw [State.readWord_writeWords, if_pos (by simp), if_pos (by simpa using inRam)]
  simp

/-- R190: to a reader of the RAM a completion is two writes, the result block and then DONE; its cause stands in ATTN. -/
theorem State.readWord_complete (s : State) (slot : Fin 16) (r : Result) (detail : List Word) (a : Nat) :
    (s.complete slot r detail).readWord a =
      ((s.writeWords (slotBase slot + 9) (r.code :: detailWords detail ++ twoWords s.now)).writeWords
        (slotBase slot) [3]).readWord a := rfl

/-- R190: the result block of a completion reads as the list that is written there. -/
theorem State.readWord_complete_result (s : State) (slot : Fin 16) (r : Result) (detail : List Word) {k : Nat} (h : k < 7) :
    (s.complete slot r detail).readWord (slotBase slot + (9 + k)) =
      (r.code :: detailWords detail ++ twoWords s.now).getD k 0 := by
  have length : (r.code :: detailWords detail ++ twoWords s.now).length = 7 := by simp [detailWords_eq, twoWords]
  have inRam := slotBase_add_lt slot (show 9 + k < 16 by omega)
  rw [State.readWord_complete, State.readWord_writeWords_outside _ _ _ _ (.inr (by rw [List.length_singleton]; omega)),
    State.readWord_writeWords, if_pos (by omega), if_pos inRam, show slotBase slot + (9 + k) - (slotBase slot + 9) = k by omega]

theorem State.complete_slotShows (s : State) (slot : Fin 16) (r : Result) (detail : List Word) :
    slotShows (s.complete slot r detail) slot r.code (detail.getD 0 0) (detail.getD 1 0) (detail.getD 2 0) (detail.getD 3 0)
      s.now := by
  have word := fun k => State.readWord_complete_result s slot r detail (k := k)
  rw [detailWords_eq] at word
  have done : (s.complete slot r detail).readWord (slotBase slot) = 3 := by
    rw [State.readWord_complete, State.readWord_writeSlotState]
  exact ⟨done, word 0 (by omega), word 1 (by omega), word 2 (by omega), word 3 (by omega), word 4 (by omega), word 5 (by omega),
    word 6 (by omega)⟩

theorem State.complete_keepsWords (s : State) (slot : Fin 16) (r : Result) (detail : List Word) :
    keepsWords s (s.complete slot r detail) (slotWord slot) := by
  intro a outside
  have length : (r.code :: detailWords detail ++ twoWords s.now).length = 7 := by simp [detailWords_eq, twoWords]
  unfold slotWord at outside
  rw [State.readWord_complete, State.readWord_writeWords_outside _ _ _ _ (by rw [List.length_singleton]; omega),
    State.readWord_writeWords_outside _ _ _ _ (by omega)]

/-- R190: a completion is all that happens from `s` on, if the state it is made in differs from `s` in words of the slot only. -/
theorem State.complete_onlyCompletes {s u : State} (slot : Fin 16) (r : Result) (detail : List Word)
    (same : u = { s with ram := u.ram }) (words : keepsWords s u (slotWord slot)) :
    onlyCompletes s (u.complete slot r detail) slot r.code (detail.getD 0 0) (detail.getD 1 0) (detail.getD 2 0)
      (detail.getD 3 0) := by
  have now : u.now = s.now := by rw [same]; rfl
  refine ⟨?_, now ▸ u.complete_slotShows slot r detail, fun a outside => ?_⟩
  · rw [same]; rfl
  · rw [u.complete_keepsWords slot r detail a outside, words a outside]

/-! ## The taking of an order (R190) -/

theorem State.takeOrder_keepsWords (s : State) (slot : Fin 16) :
    keepsWords s (s.takeOrder slot).1 (fun a => a = slotBase slot) := by
  intro a (elsewhere : a ≠ slotBase slot)
  exact State.readWord_writeWords_outside s _ a [2] (by rw [List.length_singleton]; omega)

theorem State.readWord_takeOrder (s : State) (slot : Fin 16) : (s.takeOrder slot).1.readWord (slotBase slot) = 2 :=
  s.readWord_writeSlotState slot 2

/-- R190: an order that is taken and then completed at hand-over has only been completed. -/
theorem State.takeOrder_complete_onlyCompletes (s : State) (slot : Fin 16) (r : Result) (detail : List Word) :
    onlyCompletes s ((s.takeOrder slot).1.complete slot r detail) slot r.code (detail.getD 0 0) (detail.getD 1 0)
      (detail.getD 2 0) (detail.getD 3 0) :=
  State.complete_onlyCompletes slot r detail rfl
    (fun a outside => s.takeOrder_keepsWords slot a (fun here => outside (Or.inl here)))

/-! ## The cases of R189 for a POSTED order -/

theorem State.offers_of_posted {s : State} {slot : Fin 16} {kind : Word} (h : posted s slot kind) : s.offers slot = true := by
  obtain ⟨isPosted, -, notTaken⟩ := h
  have free : s.desk.holds slot = false := Bool.eq_false_iff.mpr (mt (OrderDesk.holds_iff s.desk slot).mp notTaken)
  simp [State.offers, State.isPosted, isPosted, free]

theorem State.order_of_posted {s : State} {slot : Fin 16} {kind : Word} {k : OrderKind} (h : posted s slot kind)
    (hk : kind.toNat = k.code) : s.order slot k = (s.dealWith slot k false).1 := by
  have offers := State.offers_of_posted h
  obtain ⟨-, hkind, -⟩ := h
  exact if_pos ⟨offers, by rw [State.orderKind, hkind, hk]⟩

/-- R189, case 2: an order whose owner holds a TAKEN one waits. -/
theorem State.dealWith_of_busy (s : State) (slot : Fin 16) (k : OrderKind) (waiting : Bool)
    (busy : s.ownerBusy k.owner = true) : (s.dealWith slot k waiting).1 = s := by
  simp [State.dealWith, busy]

/-- R189, case 3: in FALLBACK the Order Desk itself refuses what R14 shuts out. -/
theorem State.dealWith_of_fallback (s : State) (slot : Fin 16) (k : OrderKind) (free : s.ownerBusy k.owner = false)
    (mode : s.drive.mode = .fallback) (shut : k.passesFallback = false) :
    (s.dealWith slot k false).1 = s.complete slot .wrongMode := by
  simp [State.dealWith, free, mode, shut]

/-- R189, case 5: every other order is taken and handed to its owner. -/
theorem State.dealWith_of_free (s : State) (slot : Fin 16) (k : OrderKind) (free : s.ownerBusy k.owner = false)
    (mode : s.drive.mode = .fallback → k.passesFallback = true) (start : k = .startSelfLoad → s.desk.apply = none) :
    (s.dealWith slot k false).1 = s.takeAndHand slot k := by
  have notShut : ¬ (s.drive.mode = .fallback ∧ (!k.passesFallback) = true) := fun ⟨hm, hk⟩ => by simp [mode hm] at hk
  have notLate : ¬ (s.desk.apply.isSome = true ∧ k = .startSelfLoad) := fun ⟨ha, hk⟩ => by simp [start hk] at ha
  rw [State.dealWith, free, if_neg (by simp), if_neg notShut, if_neg notLate]

/-! ## The checks of TARE LOAD, in their order (R109) -/

/-- R109: the conditions of the last check, by their bits. -/
def State.tareConditions (s : State) : List Bool :=
  [!(s.fault .strutSensorInvalid).active, decide (s.drive.mode ≠ .unconfigured)]

theorem State.tareConditions_all_iff (s : State) :
    s.tareConditions.all id = true ↔ (s.fault .strutSensorInvalid).active = false ∧ s.drive.mode ≠ .unconfigured := by
  simp [State.tareConditions]

theorem State.unmetMask_tareConditions (s : State) (k : Nat) :
    (unmetMask s.tareConditions).getLsbD k = true ↔
      (k = 0 ∧ (s.fault .strutSensorInvalid).active = true) ∨ (k = 1 ∧ s.drive.mode = .unconfigured) := by
  rw [unmetMask_getLsbD_iff]
  match k with
  | 0 | 1 | k + 2 => simp [State.tareConditions]

theorem State.handTareLoad_of_loaded (s : State) (o : HeldOrder)
    (loaded : s.load.cycle ≠ .empty ∨ s.exchange.slate.bodyRaised = true) :
    s.handTareLoad o = s.complete o.slot .wrongMode := if_pos loaded

/-- R160: the checks compare v as an integer. -/
theorem State.le_groundSpeed_iff (s : State) : 5 ≤ s.groundSpeed ↔ 5 ≤ s.speed.v := by
  have published : s.groundSpeed = (s.speed.v : Int) := rfl
  omega

section Empty

variable {s : State} (o : HeldOrder) (cycle : s.load.cycle = .empty) (body : s.exchange.slate.bodyRaised = false)
include cycle body

theorem State.not_loaded : ¬ (s.load.cycle ≠ .empty ∨ s.exchange.slate.bodyRaised = true) := by simp [cycle, body]

theorem State.handTareLoad_of_moving (moving : 5 ≤ s.speed.v) : s.handTareLoad o = s.complete o.slot .moving :=
  (if_neg (State.not_loaded cycle body)).trans (if_pos (s.le_groundSpeed_iff.mpr moving))

/-- R109: below 5 the conditions decide. -/
theorem State.handTareLoad_of_still (still : s.speed.v < 5) :
    s.handTareLoad o =
      if !s.tareConditions.all id then s.complete o.slot .notReady [unmetMask s.tareConditions]
      else (s.setDesk { s.desk with tare := some o }).setLoad { s.load with tareProgress := some (0, 0) } :=
  (if_neg (State.not_loaded cycle body)).trans (if_neg (mt s.le_groundSpeed_iff.mp (Nat.not_le.mpr still)))

theorem State.handTareLoad_of_notReady (still : s.speed.v < 5)
    (unmet : (s.fault .strutSensorInvalid).active = true ∨ s.drive.mode = .unconfigured) :
    s.handTareLoad o = s.complete o.slot .notReady [unmetMask s.tareConditions] := by
  have fails : s.tareConditions.all id = false := by
    rw [Bool.eq_false_iff, Ne, State.tareConditions_all_iff]
    rcases unmet with active | mode
    · simp [active]
    · simp [mode]
  rw [State.handTareLoad_of_still o cycle body still, if_pos (by rw [fails]; rfl)]

theorem State.handTareLoad_of_ready (still : s.speed.v < 5) (absent : (s.fault .strutSensorInvalid).active = false)
    (mode : s.drive.mode ≠ .unconfigured) :
    s.handTareLoad o = (s.setDesk { s.desk with tare := some o }).setLoad { s.load with tareProgress := some (0, 0) } := by
  have holds := s.tareConditions_all_iff.mpr ⟨absent, mode⟩
  rw [State.handTareLoad_of_still o cycle body still, if_neg (by simp [holds])]

end Empty

/-! ## The command (R189, R190) -/

/-- A POSTED TARE LOAD is dealt with at its command. -/
theorem exec_tareLoad_of_posted {s : State} {slot : Fin 16} (h : posted s slot 9) :
    exec (.tareLoad slot) s = .next (s.dealWith slot .tareLoad false).1 :=
  congrArg Host.Outcome.next (State.order_of_posted h rfl)

/-- With the Load Monitor free, and out of FALLBACK, it reaches the Load Monitor TAKEN. -/
theorem exec_tareLoad_handed {s : State} {slot : Fin 16} (h : posted s slot 9) (free : s.desk.tare = none)
    (mode : s.drive.mode ≠ .fallback) :
    exec (.tareLoad slot) s = .next ((s.takeOrder slot).1.handTareLoad (s.takeOrder slot).2) := by
  rw [exec_tareLoad_of_posted h,
    s.dealWith_of_free slot .tareLoad (by simp [State.ownerBusy, OrderKind.owner, free]) (fun hm => absurd hm mode) nofun]
  rfl

end Sys2Proof.Machine

section
open Sys2Proof Sys2Proof.Machine

/-- Settles O20: the Order Desk's two cases, then R109's three checks and the order that passes them, each on the state in which
the slot's order has been TAKEN. -/
theorem tareLoad : Obligations.TareLoad := by
  intro slot s h
  refine ⟨fun busy => ?waits, fun free mode => ?fallback, fun free mode => ?_⟩
  case waits => rw [exec_tareLoad_of_posted h, s.dealWith_of_busy slot .tareLoad false busy]
  case fallback =>
    refine ⟨s.complete slot .wrongMode, ?_, State.complete_onlyCompletes slot .wrongMode [] rfl (fun _ _ => rfl)⟩
    rw [exec_tareLoad_of_posted h,
      s.dealWith_of_fallback slot .tareLoad (by simp [State.ownerBusy, OrderKind.owner, free]) mode rfl]
  have handed := exec_tareLoad_handed h free mode
  have completes := s.takeOrder_complete_onlyCompletes slot
  refine ⟨fun loaded => ?wrongMode, fun cycle body moving => ?moving, fun cycle body still unmet => ?notReady,
    fun cycle body still absent configured => ?taken⟩
  case wrongMode => exact ⟨_, handed.trans (congrArg _ (State.handTareLoad_of_loaded _ _ loaded)), completes .wrongMode []⟩
  case moving => exact ⟨_, handed.trans (congrArg _ (State.handTareLoad_of_moving _ cycle body moving)), completes .moving []⟩
  case notReady =>
    have only := completes .notReady [unmetMask s.tareConditions]
    have ⟨_, ⟨_, _, detail, _⟩, _⟩ := only
    refine ⟨_, handed.trans (congrArg _ (State.handTareLoad_of_notReady _ cycle body still unmet)), ?_, fun k => ?_⟩
    · exact detail.symm ▸ only
    · exact detail.symm ▸ s.unmetMask_tareConditions k
  case taken =>
    exact ⟨_, handed.trans (congrArg _ (State.handTareLoad_of_ready _ cycle body still absent configured)), rfl,
      s.readWord_takeOrder slot, s.takeOrder_keepsWords slot⟩

end
end

section
/-! PROOF. R169: a command that takes the Drive Mode out of FALLBACK ends row 7. The Mode is changed in one place,
`State.changeMode`, which stops the decay on the way out of FALLBACK. Elsewhere row 7 is written and the decay started only by
the entry to FALLBACK, by the decay step and by the resets. So every other operation keeps `RowSevenEnds`: row 7's Value, and the
decay stopped wherever the Mode is not FALLBACK. There is one such law per operation, under the operation's own name, and it is
put together from the laws of the operation's steps as the operation is put together from them. -/

namespace Sys2Proof.Machine

/-! ## What the model's operations do here -/

/-- R11, R194: a report of a fault that is no trip cause leaves the Mode, the Limit Table and the decay alone. -/
theorem State.reportPresent_of_not_tripCause (s : State) {c : FaultCode} (h : c.isTripCause = false) (detail : Nat) :
    (s.reportPresent c detail).rows = s.rows ∧ (s.reportPresent c detail).drive = s.drive ∧
    (s.reportPresent c detail).timers = s.timers ∧ (s.reportPresent c detail).supervision = s.supervision := by
  unfold State.reportPresent
  simp only [h, Bool.false_eq_true, if_false]
  (repeat' split) <;> simp

/-- R166: neither code that a failure latches is a trip cause. -/
theorem FailureKind.latchCode_not_tripCause (k : FailureKind) : k.latchCode.isTripCause = false := by cases k <;> rfl

/-- R166: a failure in FALLBACK finds nothing more for the Drive Governor to do. -/
theorem State.failureInMode_of_fallback {s : State} (mode : s.drive.mode = .fallback) : s.failureInMode = s := by
  rw [State.failureInMode, mode]

/-- R15: a write that makes a row inactive and gives no Value keeps the Value. -/
theorem LimitRow.write_inactive (r : LimitRow) (now : Nat) (q : Quantity) :
    (r.write now q false none).active = false ∧ (r.write now q false none).value = r.value := by
  unfold LimitRow.write
  dsimp only
  split
  · next same => exact ⟨same.1.symm, rfl⟩
  · exact ⟨rfl, rfl⟩

/-- R186: a soft restart that does not start changes nothing. -/
theorem State.softRestart_of_not_restarts {s : State} (keeps : restarts s .softRestart = false) : s.softRestart = s :=
  if_neg (of_decide_eq_false keeps)

/-- R5, R186: the commands that restart the part run `State.restart`. -/
theorem exec_of_restarts {c : Instr} {s : State} (h : restarts s c = true) : ∃ k, exec c s = .next (s.restart k) := by
  cases c with
  | boardReset => exact ⟨.board, rfl⟩
  | softRestart => exact ⟨.soft, exec_restartCommand .soft s fun _ => of_decide_eq_true h⟩
  | registerWriteIgnored offset value =>
    obtain ⟨⟨rfl, rfl⟩, runctl⟩ : (offset = 2 ∧ value = 1) ∧ s.window.runctl = 0 := by simpa [restarts] using h
    exact ⟨.soft, congrArg Host.Outcome.next (if_pos runctl)⟩
  | _ => cases h

/-! ## The decay stopped (R169) -/

/-- R169: row 7 inactive, the decay timer stopped and Decay Running clear. -/
structure DecayStopped (s : State) : Prop where
  inactive : (s.row .fallbackSpeed).active = false
  timer : s.timers.decay = none
  running : s.supervision.decayRunning = false

namespace DecayStopped

variable {s t : State}

theorem frame (h : DecayStopped s) (row : t.row .fallbackSpeed = s.row .fallbackSpeed)
    (decay : t.timers.decay = s.timers.decay) (running : t.supervision.decayRunning = s.supervision.decayRunning) :
    DecayStopped t :=
  ⟨row ▸ h.inactive, decay ▸ h.timer, running ▸ h.running⟩

theorem ite {c : Prop} [Decidable c] (hs : DecayStopped s) (ht : DecayStopped t) : DecayStopped (if c then s else t) := by
  split <;> assumption

/-- R169: "a decay step that comes after it does not happen". -/
theorem decayStep (h : DecayStopped s) : s.decayStep = s := by
  rw [State.decayStep, h.running, if_neg Bool.false_ne_true]

end DecayStopped

/-- What every operation but the entry to FALLBACK, the decay step and the resets keeps, for the Value `v` of row 7. -/
structure RowSevenEnds (v : Int) (s : State) : Prop where
  value : (s.row .fallbackSpeed).value = v
  ended : s.drive.mode ≠ .fallback → DecayStopped s

namespace RowSevenEnds

variable {v : Int} {s t : State}

/-! ## The updates of the State -/

/-- The law of an operation that leaves the Limit Table, the Mode and the decay alone. -/
theorem frame (h : RowSevenEnds v s)
    (same : t.rows = s.rows ∧ t.drive.mode = s.drive.mode ∧ t.timers.decay = s.timers.decay ∧
      t.supervision.decayRunning = s.supervision.decayRunning) : RowSevenEnds v t := by
  obtain ⟨rows, mode, decay, running⟩ := same
  obtain ⟨value, ended⟩ := h
  have row : t.row .fallbackSpeed = s.row .fallbackSpeed := by rw [State.row, State.row, rows]
  exact ⟨row ▸ value, fun out => (ended (mode ▸ out)).frame row decay running⟩

theorem ite {c : Prop} [Decidable c] (hs : RowSevenEnds v s) (ht : RowSevenEnds v t) :
    RowSevenEnds v (if c then s else t) := by
  split <;> assumption

/-- Two operations, one of which a condition chooses. -/
theorem branch {c : Prop} [Decidable c] {t u : State} (h : RowSevenEnds v s) (yes : RowSevenEnds v s → RowSevenEnds v t)
    (no : RowSevenEnds v s → RowSevenEnds v u) : RowSevenEnds v (if c then t else u) := ite (yes h) (no h)

/-- An operation that acts only under a condition. -/
theorem when {c : Prop} [Decidable c] (h : RowSevenEnds v s) (step : RowSevenEnds v s → RowSevenEnds v t) :
    RowSevenEnds v (if c then t else s) := ite (step h) h

theorem foldl {α : Type} {f : State → α → State} (h : RowSevenEnds v s)
    (step : ∀ {s}, RowSevenEnds v s → ∀ x, RowSevenEnds v (f s x)) (l : List α) : RowSevenEnds v (l.foldl f s) :=
  List.foldlRecOn l f h fun _ hs x _ => step hs x

theorem setDrive (h : RowSevenEnds v s) (x : Drive) (mode : x.mode = s.drive.mode) : RowSevenEnds v (s.setDrive x) :=
  h.frame ⟨rfl, mode, rfl, rfl⟩

theorem setTimers (h : RowSevenEnds v s) (x : Timers) (decay : x.decay = s.timers.decay) : RowSevenEnds v (s.setTimers x) :=
  h.frame ⟨rfl, rfl, decay, rfl⟩

theorem setSupervision (h : RowSevenEnds v s) (x : Supervision) (running : x.decayRunning = s.supervision.decayRunning) :
    RowSevenEnds v (s.setSupervision x) := h.frame ⟨rfl, rfl, rfl, running⟩

theorem setWindow (h : RowSevenEnds v s) (x : Window) : RowSevenEnds v (s.setWindow x) := h.frame (by simp)

theorem setSettings (h : RowSevenEnds v s) (x : Option Settings) : RowSevenEnds v (s.setSettings x) := h.frame (by simp)

theorem setSettled (h : RowSevenEnds v s) (x : Option Settings) : RowSevenEnds v (s.setSettled x) := h.frame (by simp)

theorem setExchange (h : RowSevenEnds v s) (x : Exchange) : RowSevenEnds v (s.setExchange x) := h.frame (by simp)

theorem setDesk (h : RowSevenEnds v s) (x : OrderDesk) : RowSevenEnds v (s.setDesk x) := h.frame (by simp)

theorem setGrid (h : RowSevenEnds v s) (x : Grid) : RowSevenEnds v (s.setGrid x) := h.frame (by simp)

theorem setSteer (h : RowSevenEnds v s) (x : Steer) : RowSevenEnds v (s.setSteer x) := h.frame (by simp)

theorem setLoad (h : RowSevenEnds v s) (x : Load) : RowSevenEnds v (s.setLoad x) := h.frame (by simp)

theorem setLink (h : RowSevenEnds v s) (x : Link) : RowSevenEnds v (s.setLink x) := h.frame (by simp)

theorem setScan (h : RowSevenEnds v s) (x : Scan) : RowSevenEnds v (s.setScan x) := h.frame (by simp)

theorem setSpeed (h : RowSevenEnds v s) (x : Speed) : RowSevenEnds v (s.setSpeed x) := h.frame (by simp)

theorem setSelfLoad (h : RowSevenEnds v s) (x : SelfLoad) : RowSevenEnds v (s.setSelfLoad x) := h.frame (by simp)

theorem setTrace (h : RowSevenEnds v s) (x : Trace) : RowSevenEnds v (s.setTrace x) := h.frame (by simp)

theorem setPublished (h : RowSevenEnds v s) (x : Publications) : RowSevenEnds v (s.setPublished x) := h.frame (by simp)

theorem drawFree (h : RowSevenEnds v s) : RowSevenEnds v s.drawFree := h.frame (by simp)

theorem raiseCause (h : RowSevenEnds v s) (c : Cause) : RowSevenEnds v (s.raiseCause c) := h.frame (by simp)

/-! ## The Limit Table and the Drive Mode (R4, R15, R169) -/

theorem writeRow {r : RowId} (h : RowSevenEnds v s) (other : r.index ≠ RowId.fallbackSpeed.index) (active : Bool)
    (value : Option Int) : RowSevenEnds v (s.writeRow r active value) := by
  have row := s.writeRow_row_of_ne r .fallbackSpeed active value other
  obtain ⟨before, ended⟩ := h
  exact ⟨row ▸ before, fun out => (ended (by simpa using out)).frame row (by simp) (by simp)⟩

theorem writeZoneRow (h : RowSevenEnds v s) : RowSevenEnds v s.writeZoneRow :=
  ite (h.writeRow (by decide) _ _) (h.writeRow (by decide) _ _)

/-- R169, the heart of it: whatever the decay was, it is stopped here, and row 7 keeps its Value. -/
theorem stopDecay (value : (s.row .fallbackSpeed).value = v) (configured : s.drive.mode ≠ .unconfigured) :
    RowSevenEnds v s.stopDecay := by
  have rows : s.stopDecay.rows = (s.writeRow .fallbackSpeed false none).rows := by simp [State.stopDecay]
  have row : s.stopDecay.row .fallbackSpeed = (s.row .fallbackSpeed).write s.now RowId.fallbackSpeed.quantity false none := by
    rw [← s.writeRow_row .fallbackSpeed false none configured, State.row, State.row, rows]
  obtain ⟨inactive, kept⟩ := (s.row .fallbackSpeed).write_inactive s.now RowId.fallbackSpeed.quantity
  exact ⟨by rw [row, kept, value], fun _ => ⟨by rw [row, inactive], rfl, rfl⟩⟩

/-- R4, R169: out of FALLBACK the decay is stopped; from every other mode it is stopped already. -/
theorem changeMode (h : RowSevenEnds v s) (m : Mode) (configured : m ≠ .unconfigured) : RowSevenEnds v (s.changeMode m) := by
  have changed : RowSevenEnds v
      (if s.drive.mode = .fallback then ((s.setDrive { s.drive with mode := m, since := s.now }).raiseCause .mode).stopDecay
       else (s.setDrive { s.drive with mode := m, since := s.now }).raiseCause .mode) := by
    have value : (((s.setDrive { s.drive with mode := m, since := s.now }).raiseCause .mode).row .fallbackSpeed).value = v :=
      by simpa [State.row] using h.value
    split
    · exact stopDecay value (by simpa using configured)
    · next out => exact ⟨value, fun _ => (h.ended out).frame (by simp [State.row]) (by simp) (by simp)⟩
  exact ite h (ite changed.writeZoneRow changed)

theorem zeroTorque (h : RowSevenEnds v s) : RowSevenEnds v s.zeroTorque := h.frame (by simp [State.zeroTorque])

theorem enterDisarmed (h : RowSevenEnds v s) : RowSevenEnds v s.enterDisarmed := (h.changeMode _ (by decide)).zeroTorque

theorem enterSelfLoad (h : RowSevenEnds v s) : RowSevenEnds v s.enterSelfLoad := (h.changeMode _ (by decide)).zeroTorque

theorem enterArmed (h : RowSevenEnds v s) : RowSevenEnds v s.enterArmed := (h.changeMode _ (by decide)).setDrive _ (by rfl)

theorem returnToArmed (h : RowSevenEnds v s) : RowSevenEnds v s.returnToArmed :=
  (h.changeMode _ (by decide)).setDrive _ (by rfl)

theorem requestHalt (h : RowSevenEnds v s) : RowSevenEnds v s.requestHalt := h.frame (by simp)

/-- R11: the one change of Mode that a report can make. -/
theorem trip (h : RowSevenEnds v s) (c : FaultCode) : RowSevenEnds v (s.trip c) :=
  h.when fun h => ((h.changeMode _ (by decide)).zeroTorque.setDrive _ (by rfl)).requestHalt

/-! ## The Fault Table and the Order Board (R190, R194) -/

theorem putFault (h : RowSevenEnds v s) (c : FaultCode) (r : FaultRecord) : RowSevenEnds v (s.putFault c r) :=
  h.frame (by simp)

theorem reportPresent (h : RowSevenEnds v s) (c : FaultCode) (detail : Nat) : RowSevenEnds v (s.reportPresent c detail) :=
  have raised := (h.putFault c ((s.fault c).raised s.now detail)).raiseCause .fault
  ite (h.when fun h => h.putFault _ _) (raised.when fun h => h.trip c)

theorem reportAbsent (h : RowSevenEnds v s) (c : FaultCode) : RowSevenEnds v (s.reportAbsent c) := h.frame (by simp)

theorem report (h : RowSevenEnds v s) (c : FaultCode) (present : Bool) (detail : Nat) :
    RowSevenEnds v (s.report c present detail) := ite (h.reportPresent c detail) (h.reportAbsent c)

theorem latchFault (h : RowSevenEnds v s) (c : FaultCode) (detail : Nat) : RowSevenEnds v (s.latchFault c detail) :=
  (h.reportPresent c detail).reportAbsent c

theorem complete (h : RowSevenEnds v s) (slot : Fin 16) (r : Result) (detail : List Word) :
    RowSevenEnds v (s.complete slot r detail) := h.frame (by simp)

/-! ## The Self-Load Pattern Generator -/

theorem publishSelfLoad (h : RowSevenEnds v s) : RowSevenEnds v s.publishSelfLoad := h.frame (by simp)

theorem putHeader (h : RowSevenEnds v s) (x : ResultHeader) : RowSevenEnds v (s.putHeader x) := h.frame (by simp)

theorem closeStep (h : RowSevenEnds v s) (cut : Bool) : RowSevenEnds v (s.closeStep cut) := h.frame (by simp)

theorem zeroDuties (h : RowSevenEnds v s) : RowSevenEnds v s.zeroDuties := h.frame (by simp)

theorem completeStart (h : RowSevenEnds v s) (r : Result) (detail : List Word) : RowSevenEnds v (s.completeStart r detail) :=
  h.frame (by simp)

theorem beginStep (h : RowSevenEnds v s) (i : Nat) : RowSevenEnds v (s.beginStep i) := h.frame (by simp [State.beginStep])

theorem beginPhase (h : RowSevenEnds v s) (p : Phase) (ms : Nat) : RowSevenEnds v (s.beginPhase p ms) :=
  h.frame (by simp [State.beginPhase])

theorem beginBody (h : RowSevenEnds v s) : RowSevenEnds v s.beginBody := (h.beginPhase _ _).beginStep 0

theorem toIdle (h : RowSevenEnds v s) : RowSevenEnds v s.toIdle := h.frame (by simp [State.toIdle])

theorem endPattern (h : RowSevenEnds v s) : RowSevenEnds v s.endPattern :=
  ((h.zeroDuties.putHeader _).completeStart _ _).toIdle.enterDisarmed.publishSelfLoad

theorem abortWithoutMode (h : RowSevenEnds v s) (c : AbortCause) : RowSevenEnds v (s.abortWithoutMode c) :=
  ite h ((((h.zeroDuties.when fun h => h.closeStep true).putHeader _).toIdle.completeStart _ _).publishSelfLoad)

theorem abortTest (h : RowSevenEnds v s) (c : AbortCause) : RowSevenEnds v (s.abortTest c) :=
  ite h (h.abortWithoutMode c).enterDisarmed

theorem endPhase (h : RowSevenEnds v s) : RowSevenEnds v s.endPhase := by
  unfold State.endPhase
  split
  case h_1 => exact h
  case h_2 => exact h.beginBody
  case h_3 => exact (h.closeStep false).branch endPattern fun h => (h.beginPhase _ _).publishSelfLoad
  case h_4 => exact h.endPattern

theorem endStep (h : RowSevenEnds v s) : RowSevenEnds v s.endStep :=
  h.when fun h => (h.closeStep false).branch id fun h => h.beginStep _

theorem acceptStart (h : RowSevenEnds v s) (o : HeldOrder) : RowSevenEnds v (s.acceptStart o) :=
  (((((h.setDesk _).setSelfLoad _).putHeader _).setGrid _).branch beginBody fun h =>
    h.beginPhase _ _).enterSelfLoad.publishSelfLoad

theorem handStart (h : RowSevenEnds v s) (o : HeldOrder) : RowSevenEnds v (s.handStart o) := by
  unfold State.handStart
  split
  · exact h.complete _ _ _
  · exact h.acceptStart o

theorem handStop (h : RowSevenEnds v s) (o : HeldOrder) : RowSevenEnds v (s.handStop o) :=
  ite ((h.abortTest .stopped).complete _ _ _) (h.complete _ _ _)

/-! ## The Supervision Monitor (R163 to R170) -/

theorem publishSupervision (h : RowSevenEnds v s) : RowSevenEnds v s.publishSupervision := h.frame (by simp)

theorem startLongWindow (h : RowSevenEnds v s) : RowSevenEnds v s.startLongWindow :=
  (h.setSupervision _ (by rfl)).setTimers _ (by rfl)

theorem startZone (h : RowSevenEnds v s) : RowSevenEnds v s.startZone := (h.setSupervision _ (by rfl)).setTimers _ (by rfl)

/-- R166: in FALLBACK a failure latches its code and leaves the Mode, as neither code trips. -/
theorem failSupervision (h : RowSevenEnds v s) (mode : s.drive.mode = .fallback) (k : FailureKind) :
    RowSevenEnds v (s.failSupervision k) := by
  have latch (u : State) := u.reportPresent_of_not_tripCause k.latchCode_not_tripCause 0
  unfold State.failSupervision
  dsimp only
  rw [State.failureInMode_of_fallback (by simp [State.latchFault, latch, mode])]
  exact (((((h.setSupervision _ (by rfl)).latchFault _ _).setSupervision _ (by rfl)).startLongWindow.raiseCause _).when
    fun h => h.reportPresent _ _).publishSupervision

theorem heartbeatAdvance (h : RowSevenEnds v s) (mode : s.drive.mode = .fallback) : RowSevenEnds v s.heartbeatAdvance := by
  unfold State.heartbeatAdvance
  refine ite h ?_
  split
  case h_1 => exact h.startZone.publishSupervision
  case h_2 => exact h.failSupervision mode .early
  case h_3 => exact (h.setSupervision _ (by rfl)).startZone.publishSupervision

theorem expireLongWindow (h : RowSevenEnds v s) (mode : s.drive.mode = .fallback) : RowSevenEnds v s.expireLongWindow :=
  h.when fun h => h.failSupervision mode .late

theorem expireWMin (h : RowSevenEnds v s) : RowSevenEnds v s.expireWMin :=
  h.when fun h => ((h.setSupervision _ (by rfl)).setTimers _ (by rfl)).publishSupervision

theorem expireWMax (h : RowSevenEnds v s) (mode : s.drive.mode = .fallback) : RowSevenEnds v s.expireWMax :=
  h.when fun h => h.failSupervision mode .late

theorem handClearFallback (h : RowSevenEnds v s) (o : HeldOrder) : RowSevenEnds v (s.handClearFallback o) :=
  ite (h.complete _ _ _) (ite (h.complete _ _ _) (ite (h.complete _ _ _)
    (((h.setSupervision _ (by rfl)).reportAbsent _).complete _ _ _).returnToArmed.publishSupervision))

/-! ## The completion of APPLY SETTINGS (R191) -/

theorem startGovernor (h : RowSevenEnds v s) : RowSevenEnds v s.startGovernor := h.setTimers _ (by rfl)

theorem startGridFrames (h : RowSevenEnds v s) : RowSevenEnds v s.startGridFrames := ite h (h.setTimers _ (by rfl))

theorem startMonitor (h : RowSevenEnds v s) : RowSevenEnds v s.startMonitor :=
  ite h (h.setSupervision _ (by rfl)).startLongWindow.publishSupervision

theorem markModels (h : RowSevenEnds v s) : RowSevenEnds v s.markModels := h.frame (by simp)

theorem completeApply (h : RowSevenEnds v s) : RowSevenEnds v s.completeApply := by
  unfold State.completeApply
  split
  · exact h
  · next o _ =>
    have settled := (h.setDesk { s.desk with apply := none }).setSettled s.settings
    exact ((settled.complete o.slot .done []).when
      enterDisarmed).startGovernor.startGridFrames.startMonitor.markModels.setLoad _

/-! ## The Load Monitor -/

theorem weigh (h : RowSevenEnds v s) : RowSevenEnds v s.weigh := by
  have read : RowSevenEnds v s.readStruts := h.frame (by simp)
  unfold State.weigh
  dsimp only
  split
  · exact (read.reportPresent _ _).setLoad _
  · exact ((read.reportAbsent _).setLoad _).setLoad _

theorem writeClass (h : RowSevenEnds v s) : RowSevenEnds v s.writeClass := by
  unfold State.writeClass
  dsimp only
  split <;> exact (((h.writeRow (by decide) _ _).writeRow (by decide) _ _).report _ _ _).report _ _ _

theorem classStep (h : RowSevenEnds v s) (latched : Bool) : RowSevenEnds v (s.classStep latched) :=
  ite h (h.setLoad _).writeClass

/-- R108: of a pass's six steps only the weighing and the classes report faults or write rows. -/
theorem loadPass (h : RowSevenEnds v s) : RowSevenEnds v s.loadPass :=
  h.when fun h => (((frame h.weigh (by simp)).classStep _).setLoad _).setPublished _

theorem setMotor (h : RowSevenEnds v s) (w : Wheel) (m : Motor) : RowSevenEnds v (s.setMotor w m) := h.frame (by simp)

theorem publishMotor (h : RowSevenEnds v s) (w : Wheel) : RowSevenEnds v (s.publishMotor w) := h.frame (by simp)

theorem writeMotorRow {r : RowId} (h : RowSevenEnds v s) (other : r.index ≠ RowId.fallbackSpeed.index) (value : Int) :
    RowSevenEnds v (s.writeMotorRow r value) := ite (h.writeRow other _ _) (h.writeRow other _ _)

theorem takeMotorReply (h : RowSevenEnds v s) (w : Wheel) (r : TorqueReply) : RowSevenEnds v (s.takeMotorReply w r) := by
  have propel : w.propelRow.index ≠ RowId.fallbackSpeed.index := by cases w <;> decide
  have retard : w.retardRow.index ≠ RowId.fallbackSpeed.index := by cases w <;> decide
  exact (((((h.setMotor _ _).branch (fun h => h.reportPresent _ _) fun h => h.when fun h => h.reportAbsent _).report
    _ _ _).writeMotorRow propel _).writeMotorRow retard _).publishMotor w

/-! ## The Steering Servo -/

theorem publishSteer (h : RowSevenEnds v s) : RowSevenEnds v s.publishSteer := h.frame (by simp)

theorem writeFlow (h : RowSevenEnds v s) (flow : Int) : RowSevenEnds v (s.writeFlow flow) := (h.setSteer _).setLink _

theorem writeReserveRow (h : RowSevenEnds v s) : RowSevenEnds v s.writeReserveRow := by
  unfold State.writeReserveRow
  split
  case h_1 => exact h.setSteer _
  all_goals exact (h.writeRow (by decide) _ _).setSteer _

theorem failServo (h : RowSevenEnds v s) (c : FaultCode) : RowSevenEnds v (s.failServo c) :=
  ((h.setSteer _).writeFlow 0).writeReserveRow.publishSteer

theorem takeFailure (h : RowSevenEnds v s) (c : FaultCode) (fresh : Bool) : RowSevenEnds v (s.takeFailure c fresh) := by
  unfold State.takeFailure
  split
  case h_1 => exact h
  case h_4 => exact h.when fun h => (h.setSteer _).publishSteer
  all_goals exact h.failServo c

theorem wakeServo (h : RowSevenEnds v s) : RowSevenEnds v s.wakeServo := h.frame (by simp)

theorem judgeFeedback (h : RowSevenEnds v s) : RowSevenEnds v s.judgeFeedback.1 := by
  unfold State.judgeFeedback
  split
  · exact (h.setSteer _).reportAbsent _
  · exact (h.reportPresent _ _).takeFailure _ _

theorem judgeSupplyLow (h : RowSevenEnds v s) (recovered : Bool) : RowSevenEnds v (s.judgeSupplyLow recovered) :=
  h.frame (by simp)

theorem judgeSupplyHigh (h : RowSevenEnds v s) (below : Bool) : RowSevenEnds v (s.judgeSupplyHigh below) :=
  ite (ite ((h.setSteer _).reportPresent _ _) (h.setSteer _)) (h.setSteer _)

theorem judgeSupply (h : RowSevenEnds v s) : RowSevenEnds v s.judgeSupply :=
  (h.when fun h => h.setSteer _).branch (fun h => h.judgeSupplyLow _) fun h => h.judgeSupplyHigh _

theorem judgeAccumulator (h : RowSevenEnds v s) (given : Bool) : RowSevenEnds v (s.judgeAccumulator given) := by
  unfold State.judgeAccumulator
  dsimp only
  refine ((h.when fun h => h.setSteer _).setSteer _).branch id fun h => ite ?_ (h.reportAbsent _)
  split
  case h_1 | h_2 => exact (h.reportPresent _ _).takeFailure _ _
  case h_3 | h_4 => exact h.reportPresent _ _

theorem takeDemand (h : RowSevenEnds v s) : RowSevenEnds v s.takeDemand := h.frame (by simp)

theorem limitAngle (h : RowSevenEnds v s) : RowSevenEnds v s.limitAngle := h.frame (by simp)

theorem moveTarget (h : RowSevenEnds v s) : RowSevenEnds v s.moveTarget := h.frame (by simp)

theorem judgeTracking (h : RowSevenEnds v s) : RowSevenEnds v s.judgeTracking := by
  unfold State.judgeTracking
  dsimp only
  split
  case h_1 | h_2 => exact h
  all_goals
    refine ite ?_ (h.setSteer _)
    split
    · exact h.setSteer _
    · exact ite h ((h.latchFault _ _).failServo _)

theorem trackRatios (h : RowSevenEnds v s) : RowSevenEnds v s.trackRatios := h.frame (by simp)

theorem writeCurveRow (h : RowSevenEnds v s) : RowSevenEnds v s.writeCurveRow := (h.setSteer _).writeRow (by decide) _ _

theorem refreshReserveRow (h : RowSevenEnds v s) : RowSevenEnds v s.refreshReserveRow := ite h h.writeReserveRow

theorem steeringFrame (h : RowSevenEnds v s) : RowSevenEnds v s.steeringFrame :=
  have judged := (h.setTimers { s.timers with steering := s.again s.timers.steering 5000 } (by rfl)).wakeServo.judgeFeedback
  have tracked := (judged.judgeSupply.judgeAccumulator _).takeDemand.limitAngle.moveTarget.judgeTracking
  ite h (tracked.writeFlow _).trackRatios.writeCurveRow.refreshReserveRow.publishSteer.drawFree

theorem takeValveReply (h : RowSevenEnds v s) (r : ValveReply) : RowSevenEnds v (s.takeValveReply r) :=
  ite ((h.reportPresent _ _).takeFailure _ _) (h.reportAbsent _)

theorem tellSteer (h : RowSevenEnds v s) (c : FaultCode) : RowSevenEnds v (s.tellSteer c) := by
  unfold State.tellSteer
  refine ite ?_ h
  split
  · exact (h.setSteer _).publishSteer
  · exact (h.setSteer _).writeReserveRow.publishSteer

theorem restartSteer (h : RowSevenEnds v s) : RowSevenEnds v s.restartSteer :=
  ((h.setSteer _).setTimers _ (by rfl)).writeFlow 0

theorem startSteerTimer (h : RowSevenEnds v s) : RowSevenEnds v s.startSteerTimer :=
  h.when fun h => (h.setSteer _).setTimers _ (by rfl)

/-! ## The Scan Unit -/

theorem publishScan (h : RowSevenEnds v s) : RowSevenEnds v s.publishScan := h.frame (by simp)

theorem strobe (h : RowSevenEnds v s) : RowSevenEnds v s.strobe := h.when fun h => (h.setTimers _ (by rfl)).setScan _

theorem writeSample (h : RowSevenEnds v s) (r : Role) (x : Sample) : RowSevenEnds v (s.writeSample r x) :=
  ((h.setScan _).when fun h => h.reportPresent _ _).when fun h => h.reportAbsent _

theorem scanPass (h : RowSevenEnds v s) : RowSevenEnds v s.scanPass := h.loadPass.startSteerTimer.completeApply

theorem advanceScan (h : RowSevenEnds v s) (entries : Nat) : RowSevenEnds v (s.advanceScan entries) :=
  ite (h.setScan _).publishScan.scanPass (h.setScan _).publishScan

theorem completeStrobe (h : RowSevenEnds v s) (conversions : List Conversion) :
    RowSevenEnds v (s.completeStrobe conversions) := by
  unfold State.completeStrobe
  split
  · exact h.when fun h => ((h.setScan _).writeSample _ _).advanceScan _
  · exact h

theorem restartScan (h : RowSevenEnds v s) : RowSevenEnds v s.restartScan :=
  ((h.setScan _).when fun h => h.reportAbsent _).setTimers _ (by rfl)

/-! ## The Trace Recorder and the Drive Governor's frame -/

theorem writeTraceItems (h : RowSevenEnds v s) : RowSevenEnds v s.writeTraceItems := h.frame (by simp)

theorem storeRecord (h : RowSevenEnds v s) (c : TraceSettings) (record : List Word) :
    RowSevenEnds v (s.storeRecord c record) := h.frame (by simp)

theorem loseRecord (h : RowSevenEnds v s) : RowSevenEnds v s.loseRecord := (ite h (h.reportPresent _ _)).setTrace _

theorem formRecord (h : RowSevenEnds v s) (c : TraceSettings) (values : Nat → Int) :
    RowSevenEnds v (s.formRecord c values) := (ite (h.storeRecord _ _) h.loseRecord).writeTraceItems

theorem recordFrame (h : RowSevenEnds v s) (values : Nat → Int) : RowSevenEnds v (s.recordFrame values) :=
  ite (ite ((h.setTrace _).formRecord _ _) (h.setTrace _)) h

theorem settleDirection (h : RowSevenEnds v s) : RowSevenEnds v s.settleDirection :=
  ite h ((h.setDrive _ (by rfl)).when fun h => h.setDrive _ (by rfl))

theorem writeCeilings (h : RowSevenEnds v s) : RowSevenEnds v s.writeCeilings :=
  ((h.writeRow (by decide) _ _).writeRow (by decide) _ _).writeRow (by decide) _ _

theorem takeLimits (h : RowSevenEnds v s) : RowSevenEnds v s.takeLimits :=
  (h.setDrive _ (by rfl)).when fun h => h.raiseCause _

theorem judgeOverspeed (h : RowSevenEnds v s) : RowSevenEnds v s.judgeOverspeed := by
  refine ite ?_ ((h.setDrive _ (by rfl)).reportAbsent _)
  split
  · exact h.setDrive _ (by rfl)
  · exact ite h (h.reportPresent _ _)

theorem endOverspeed (h : RowSevenEnds v s) : RowSevenEnds v s.endOverspeed := (h.setDrive _ (by rfl)).reportAbsent _

theorem openFrame (h : RowSevenEnds v s) : RowSevenEnds v s.openFrame :=
  ite (h.setDrive _ (by rfl)) h.settleDirection.writeCeilings.takeLimits

theorem keepFrame (h : RowSevenEnds v s) (f : FrameValues) (driving : Bool) : RowSevenEnds v (s.keepFrame f driving) :=
  (h.setDrive _ (by rfl)).setLink _

theorem writePage (h : RowSevenEnds v s) (f : FrameValues) : RowSevenEnds v (s.writePage f) :=
  h.frame (by simp [State.writePage])

theorem governorFrame (h : RowSevenEnds v s) : RowSevenEnds v s.governorFrame :=
  have judged := (h.setTimers _ (by rfl)).openFrame.branch judgeOverspeed endOverspeed
  (((judged.keepFrame _ _).writePage _).recordFrame _).drawFree

/-! ## The Grid Manager -/

theorem forBanks {f : State → BankId → State} (h : RowSevenEnds v s)
    (step : ∀ {s}, RowSevenEnds v s → ∀ k, RowSevenEnds v (f s k)) : RowSevenEnds v (s.forBanks f) := step (step h .a) .b

theorem setBank (h : RowSevenEnds v s) (k : BankId) (x : Bank) : RowSevenEnds v (s.setBank k x) := h.frame (by simp)

theorem settleBank (h : RowSevenEnds v s) (k : BankId) : RowSevenEnds v (s.settleBank k) := h.frame (by simp)

theorem tripBank (h : RowSevenEnds v s) (k : BankId) (c : BankTrip) : RowSevenEnds v (s.tripBank k c) :=
  (ite ((h.setBank _ _).reportPresent _ _) (h.setBank _ _)).reportPresent _ _

theorem checkChopperTrip (h : RowSevenEnds v s) (k : BankId) : RowSevenEnds v (s.checkChopperTrip k) :=
  h.when fun h => h.tripBank k .chopper

theorem returnBank (h : RowSevenEnds v s) (k : BankId) : RowSevenEnds v (s.returnBank k) := h.frame (by simp)

theorem computePower (h : RowSevenEnds v s) : RowSevenEnds v s.computePower := h.frame (by simp)

theorem readLink (h : RowSevenEnds v s) : RowSevenEnds v s.readLink := h.setGrid _

theorem persistOvervoltage (h : RowSevenEnds v s) : RowSevenEnds v s.persistOvervoltage :=
  h.when fun h => ((h.setGrid _).reportPresent _ _).abortTest .overvoltage

theorem recheckOvervoltage (h : RowSevenEnds v s) : RowSevenEnds v s.recheckOvervoltage :=
  h.when fun h => (h.setGrid _).when fun h => (h.setGrid _).writeRow (by decide) _ _

theorem settleOvervoltageRow (h : RowSevenEnds v s) : RowSevenEnds v s.settleOvervoltageRow :=
  ite (h.setGrid _) (ite h (h.writeRow (by decide) _ _))

theorem judgeOvervoltage (h : RowSevenEnds v s) : RowSevenEnds v s.judgeOvervoltage :=
  ite (h.when fun h => (h.setGrid _).writeRow (by decide) _ _)
    (ite ((h.setGrid _).reportAbsent _).settleOvervoltageRow h.persistOvervoltage)

theorem judgeUndervoltage (h : RowSevenEnds v s) : RowSevenEnds v s.judgeUndervoltage :=
  (ite (h.writeRow (by decide) _ _) (h.writeRow (by decide) _ _)).report _ _ _

theorem judgeLinkVoltage (h : RowSevenEnds v s) : RowSevenEnds v s.judgeLinkVoltage :=
  ite h.recheckOvervoltage.judgeOvervoltage.judgeUndervoltage h.persistOvervoltage

theorem writeGridCapacity (h : RowSevenEnds v s) : RowSevenEnds v s.writeGridCapacity := h.writeRow (by decide) _ _

theorem regulate (h : RowSevenEnds v s) (testing : Bool) : RowSevenEnds v (s.regulate testing) := h.setGrid _

theorem setDuties (h : RowSevenEnds v s) (a b : Int) : RowSevenEnds v (s.setDuties a b) := h.setGrid _

theorem addStepSums (h : RowSevenEnds v s) : RowSevenEnds v s.addStepSums := h.frame (by simp)

theorem generateDuties (h : RowSevenEnds v s) : RowSevenEnds v s.generateDuties := by
  refine ite (h.setDuties _ _) ?_
  split
  · exact (h.abortTest _).setDuties _ _
  · exact (h.setSelfLoad _).addStepSums.setDuties _ _

theorem forceDuties (h : RowSevenEnds v s) : RowSevenEnds v s.forceDuties := h.frame (by simp)

theorem assignDuties (h : RowSevenEnds v s) (testing : Bool) : RowSevenEnds v (s.assignDuties testing) :=
  (h.branch generateDuties fun h => h.setDuties _ _).branch (fun h => h.setDuties _ _) forceDuties

theorem demandBlower (h : RowSevenEnds v s) (k : BankId) : RowSevenEnds v (s.demandBlower k) := h.setBank _ _

theorem judgeBlower (h : RowSevenEnds v s) (k : BankId) : RowSevenEnds v (s.judgeBlower k) :=
  ite (h.reportAbsent _) (ite h (ite (h.reportAbsent _) (h.when fun h => h.reportPresent _ _)))

theorem finishLinkFrame (h : RowSevenEnds v s) : RowSevenEnds v s.finishLinkFrame := h.frame (by simp)

theorem dcLinkFrame (h : RowSevenEnds v s) : RowSevenEnds v s.dcLinkFrame :=
  have settled := ((h.setTimers _ (by rfl)).readLink.judgeLinkVoltage.forBanks settleBank).forBanks checkChopperTrip
  have assigned := (settled.computePower.writeGridCapacity.regulate _).assignDuties _
  ite h (((assigned.forBanks demandBlower).forBanks judgeBlower).finishLinkFrame.when publishSelfLoad)

theorem formMeans (h : RowSevenEnds v s) (m : Means) (x : GridSums) : RowSevenEnds v (s.formMeans m x) := h.frame (by simp)

theorem updateTheta (h : RowSevenEnds v s) (k : BankId) : RowSevenEnds v (s.updateTheta k) := h.frame (by simp)

theorem judgeAir (h : RowSevenEnds v s) (k : BankId) : RowSevenEnds v (s.judgeAir k) :=
  ite ((h.setBank _ _).reportAbsent _) (h.when fun h => (h.setBank _ _).report _ _ _)

theorem checkCircuit (h : RowSevenEnds v s) (m : Means) (x : GridSums) (k : BankId) :
    RowSevenEnds v (s.checkCircuit m x k) := h.when fun h => (h.setBank _ _).latchFault _ _

theorem pruneBank (h : RowSevenEnds v s) (k : BankId) : RowSevenEnds v (s.pruneBank k) := h.frame (by simp)

theorem checkThermalTrip (h : RowSevenEnds v s) (circuit : Bool) (k : BankId) :
    RowSevenEnds v (s.checkThermalTrip circuit k) :=
  ite h (ite (h.tripBank k _) (ite (h.tripBank k _) (h.when fun h => h.tripBank k _)))

theorem writeDescent (h : RowSevenEnds v s) : RowSevenEnds v s.writeDescent :=
  have put (x : Grid) (active : Bool) (value : Option Int) :
      RowSevenEnds v ((s.setGrid x).writeRow .descentSpeed active value) := (h.setGrid x).writeRow (by decide) active value
  ite (put _ _ _) (ite (put _ _ _) (ite (put _ _ _) (ite (put _ _ _) (put _ _ _))))

theorem reportBanksAnew (h : RowSevenEnds v s) : RowSevenEnds v s.reportBanksAnew :=
  h.when fun h => (h.setGrid _).forBanks fun h _ => ((h.report _ _ _).report _ _ _).report _ _ _

theorem thermalFrame (h : RowSevenEnds v s) : RowSevenEnds v s.thermalFrame :=
  have heated := (((h.setTimers _ (by rfl)).formMeans _ _).forBanks updateTheta).forBanks judgeAir
  have pruned := (heated.forBanks fun h k => h.checkCircuit _ _ k).forBanks pruneBank
  have tripped := (pruned.checkThermalTrip _ .a).checkThermalTrip _ .b
  ite h ((tripped.forBanks returnBank).forBanks settleBank).computePower.writeDescent.reportBanksAnew.drawFree

theorem tellGrid (h : RowSevenEnds v s) (c : FaultCode) : RowSevenEnds v (s.tellGrid c) := by
  unfold State.tellGrid
  split
  case h_1 | h_2 => exact h.setBank _ _
  case h_3 => exact (h.setGrid _).branch id fun h => h.writeRow (by decide) _ _
  case h_4 => exact h

/-! ## The Wheel Link Master -/

theorem publishLink (h : RowSevenEnds v s) : RowSevenEnds v s.publishLink := h.frame (by simp)

theorem setStation (h : RowSevenEnds v s) (n : StationId) (x : Station) : RowSevenEnds v (s.setStation n x) := h.setLink _

theorem abandonExchange (h : RowSevenEnds v s) : RowSevenEnds v s.abandonExchange := (h.setLink _).setTimers _ (by rfl)

theorem startExchange (h : RowSevenEnds v s) : RowSevenEnds v s.startExchange := h.frame (by simp)

theorem sendNext (h : RowSevenEnds v s) : RowSevenEnds v s.sendNext := by
  unfold State.sendNext
  split
  · exact h
  · split
    · exact ite h (h.setLink _)
    · exact ite h ((h.setLink _).setTimers _ (by rfl))

theorem echoFailed (h : RowSevenEnds v s) (n : StationId) : RowSevenEnds v (s.echoFailed n) :=
  (((h.setLink _).abandonExchange.setLink _).latchFault _ _).publishLink

theorem endCharacter (h : RowSevenEnds v s) : RowSevenEnds v s.endCharacter := by
  unfold State.endCharacter
  split
  · exact h.sendNext
  · exact ite (h.setLink _).sendNext (ite (h.setLink _).sendNext (h.echoFailed _))

theorem checkEcho (h : RowSevenEnds v s) : RowSevenEnds v s.checkEcho := by
  unfold State.checkEcho
  split
  · exact ite (h.setLink _).endCharacter (h.echoFailed _)
  · exact h.when endCharacter

theorem unsolicited (h : RowSevenEnds v s) : RowSevenEnds v s.unsolicited := h.setLink _

theorem enqueue (h : RowSevenEnds v s) (c : RxChar) : RowSevenEnds v (s.enqueue c) := h.frame (by simp)

theorem matchFirst (h : RowSevenEnds v s) (e : ExchangeInProgress) (c : RxChar) : RowSevenEnds v (s.matchFirst e c) :=
  ((h.setTimers _ (by rfl)).setLink _).branch (fun h => h.enqueue c) fun h =>
    ite ((h.setLink _).enqueue c) (ite (h.enqueue c) (h.setLink _))

theorem receiveReply (h : RowSevenEnds v s) (c : RxChar) : RowSevenEnds v (s.receiveReply c) := by
  unfold State.receiveReply
  refine ite h ?_
  split
  · exact ite h.unsolicited (ite (h.enqueue c) (h.matchFirst _ c))
  · exact h.unsolicited

theorem receive (h : RowSevenEnds v s) (c : RxChar) : RowSevenEnds v (s.receive c) := by
  unfold State.receive
  split
  · exact h.setLink _
  · exact ite h (h.receiveReply c)

theorem takeLine (h : RowSevenEnds v s) (c : LineChar) : RowSevenEnds v (s.takeLine c) := ite h ((h.setLink _).receive _)

theorem stationLost (h : RowSevenEnds v s) (n : StationId) (r : Reason) : RowSevenEnds v (s.stationLost n r) := by
  have reported := h.reportPresent n.lostCode r.code
  cases n with
  | inverterL | inverterR => exact reported
  | chopper => exact reported.abortTest .station
  | valve => exact reported.takeFailure _ _

theorem setMismatch (h : RowSevenEnds v s) (w : Wheel) (t : Option Nat) : RowSevenEnds v (s.setMismatch w t) :=
  h.frame (by simp)

theorem crossCheck (h : RowSevenEnds v s) (w : Wheel) (r : TorqueReply) : RowSevenEnds v (s.crossCheck w r) := by
  refine ite ?_ ((h.setMismatch _ _).reportAbsent _)
  split
  · exact h.setMismatch _ _
  · exact ite h (ite h (h.reportPresent _ _))

theorem takeTorqueReply (h : RowSevenEnds v s) (w : Wheel) (r : TorqueReply) : RowSevenEnds v (s.takeTorqueReply w r) :=
  ((h.report _ _ _).takeMotorReply w r).crossCheck w r

/-- R133, R139: the reply is stored and the assembler held. -/
theorem holdReply (h : RowSevenEnds v s) (n : StationId) (x : Station) (l : Link) (hold : Option Nat) :
    RowSevenEnds v (((s.setStation n x).setLink l).setTimers { s.timers with hold := hold }) :=
  ((h.setStation n x).setLink l).setTimers _ rfl

theorem acceptReply (h : RowSevenEnds v s) (n : StationId) (r : Reply) : RowSevenEnds v (s.acceptReply n r) := by
  have held := h.holdReply n
  unfold State.acceptReply
  dsimp only
  split
  · exact (held _ _ _).takeTorqueReply .left _
  · exact (held _ _ _).takeTorqueReply .right _
  · exact (held _ _ _).setGrid _
  · exact (held _ _ _).takeValveReply _
  · exact held _ _ _

theorem judgeStation (h : RowSevenEnds v s) (n : StationId) (outcome : Option Reason) :
    RowSevenEnds v (s.judgeStation n outcome) := by
  cases outcome with
  | some r => exact (h.setStation _ _).when fun h => h.stationLost n r
  | none => exact (h.setStation _ _).when fun h => h.reportAbsent _

theorem endExchange (h : RowSevenEnds v s) (e : ExchangeInProgress) (outcome : Option Reason) (data : List (BitVec 8)) :
    RowSevenEnds v (s.endExchange e outcome data) :=
  (((h.abandonExchange.setLink _).judgeStation _ _).when fun h => h.acceptReply _ _).publishLink

theorem endAssembly (h : RowSevenEnds v s) (e : ExchangeInProgress) : RowSevenEnds v (s.endAssembly e) := h.endExchange _ _ _

theorem assemble (h : RowSevenEnds v s) (e : ExchangeInProgress) (c : RxChar) : RowSevenEnds v (s.assemble e c) :=
  ite (h.setLink _) (ite ((h.setLink _).endAssembly e) (h.setLink _))

theorem drain (h : RowSevenEnds v s) : RowSevenEnds v s.drain := by
  unfold State.drain
  split
  · exact h
  · refine ite h (ite (h.setLink _) ?_)
    split
    · exact (h.setLink _).assemble _ _
    · exact (h.setLink _).setLink _

theorem endFrame (h : RowSevenEnds v s) : RowSevenEnds v s.endFrame := by
  unfold State.endFrame
  split
  · exact h.when fun h => ite (ite h (h.endAssembly _)) (h.when fun h => h.setLink _)
  · exact h

theorem endMute (h : RowSevenEnds v s) : RowSevenEnds v s.endMute := by
  refine ite ?_ h
  split
  · exact h.endExchange _ _ _
  · exact h.setLink _

theorem expireReply (h : RowSevenEnds v s) : RowSevenEnds v s.expireReply := by
  unfold State.expireReply
  split
  · exact h.when fun h => h.endExchange _ _ _
  · exact h

theorem lineStuck (h : RowSevenEnds v s) : RowSevenEnds v s.lineStuck :=
  h.when fun h => (((h.setLink _).when abandonExchange).reportPresent _ _).publishLink

theorem lineCleared (h : RowSevenEnds v s) : RowSevenEnds v s.lineCleared :=
  h.when fun h => ((h.setLink _).reportAbsent _).publishLink

theorem startHalt (h : RowSevenEnds v s) : RowSevenEnds v s.startHalt :=
  h.when fun h => ((h.when abandonExchange).setLink _).setTimers _ (by rfl)

theorem endHalt (h : RowSevenEnds v s) : RowSevenEnds v s.endHalt :=
  h.when fun h => (((h.setLink _).setTimers _ (by rfl)).setWindow _).startExchange

theorem endHold (h : RowSevenEnds v s) : RowSevenEnds v s.endHold := (h.setLink _).setTimers _ (by rfl)

theorem dropStation (h : RowSevenEnds v s) (n : StationId) : RowSevenEnds v (s.dropStation n) :=
  (h.setStation _ _).foldl reportAbsent _

theorem restartLink (h : RowSevenEnds v s) : RowSevenEnds v s.restartLink :=
  ((h.abandonExchange.setLink _).foldl (fun h n => ite h (h.dropStation n)) _).publishLink

theorem tellLink (h : RowSevenEnds v s) (c : FaultCode) : RowSevenEnds v (s.tellLink c) := h.frame (by simp)

/-! ## The Exchange Unit (R188, R195) -/

/-- R188: in FALLBACK an accepted slate writes no row. -/
theorem acceptSlate (h : RowSevenEnds v s) (mode : s.drive.mode = .fallback) (stamp : Word) :
    RowSevenEnds v (s.acceptSlate stamp) := by
  unfold State.acceptSlate
  simp only [State.setExchange_drive, mode, if_true]
  exact (h.setExchange _).when fun h => h.heartbeatAdvance mode

theorem pickUp (h : RowSevenEnds v s) (mode : s.drive.mode = .fallback) : RowSevenEnds v s.pickUp :=
  (h.setTimers _ (by rfl)).branch (fun h => h.setExchange _) fun h => ite h (h.acceptSlate mode _)

theorem unlatch (h : RowSevenEnds v s) (c : FaultCode) : RowSevenEnds v (s.unlatch c) := h.frame (by simp)

theorem tellOwners (h : RowSevenEnds v s) (c : FaultCode) : RowSevenEnds v (s.tellOwners c) :=
  ((h.tellGrid c).tellSteer c).tellLink c

theorem leaveTripped (h : RowSevenEnds v s) (cleared : Bool) : RowSevenEnds v (s.leaveTripped cleared) :=
  h.when enterDisarmed

theorem clearCodes (h : RowSevenEnds v s) (codes : List FaultCode) : RowSevenEnds v (s.clearCodes codes) :=
  ((h.foldl unlatch codes).foldl tellOwners codes).leaveTripped _

theorem handClearFault (h : RowSevenEnds v s) (o : HeldOrder) : RowSevenEnds v (s.handClearFault o) := by
  refine ite ((h.clearCodes _).complete _ _ _) ?_
  split
  · exact h.complete _ _ _
  · exact ite (h.complete _ _ _) ((h.clearCodes _).complete _ _ _)

/-! ## The Order Desk (R6 to R8, R189, R190) -/

theorem restartLoad (h : RowSevenEnds v s) : RowSevenEnds v s.restartLoad := h.setLoad _

theorem restartTrace (h : RowSevenEnds v s) : RowSevenEnds v s.restartTrace := (h.setTrace _).reportAbsent _

theorem restartBlocks (h : RowSevenEnds v s) : RowSevenEnds v s.restartBlocks :=
  h.restartScan.restartLink.restartSteer.restartLoad.restartTrace

theorem handApply (h : RowSevenEnds v s) (o : HeldOrder) : RowSevenEnds v (s.handApply o) := by
  refine ite ?_ (h.complete _ _ _)
  split
  · exact h.complete _ _ _
  · exact (h.setSettings _).restartBlocks.setDesk _

theorem handArm (h : RowSevenEnds v s) (o : HeldOrder) : RowSevenEnds v (s.handArm o) :=
  ite (h.complete _ _ _) (ite (h.enterArmed.complete _ _ _) (h.complete _ _ _))

theorem handDisarm (h : RowSevenEnds v s) (o : HeldOrder) : RowSevenEnds v (s.handDisarm o) := by
  unfold State.handDisarm
  split
  case h_1 | h_2 => exact ite (h.complete _ _ _) (h.enterDisarmed.complete _ _ _)
  all_goals exact h.complete _ _ _

theorem handResetLockout (h : RowSevenEnds v s) (o : HeldOrder) : RowSevenEnds v (s.handResetLockout o) := h.frame (by simp)

theorem handTareLoad (h : RowSevenEnds v s) (o : HeldOrder) : RowSevenEnds v (s.handTareLoad o) := h.frame (by simp)

theorem handOver (h : RowSevenEnds v s) (k : OrderKind) (o : HeldOrder) : RowSevenEnds v (s.handOver k o) := by
  cases k with
  | applySettings => exact h.handApply o
  | armDrive => exact h.handArm o
  | disarmDrive => exact h.handDisarm o
  | clearFallback => exact h.handClearFallback o
  | clearFault => exact h.handClearFault o
  | resetLockout => exact h.handResetLockout o
  | startSelfLoad => exact h.handStart o
  | stopSelfLoad => exact h.handStop o
  | tareLoad => exact h.handTareLoad o

theorem takeAndHand (h : RowSevenEnds v s) (slot : Fin 16) (k : OrderKind) : RowSevenEnds v (s.takeAndHand slot k) := by
  have taken : RowSevenEnds v (s.takeOrder slot).1 := h.frame (by simp)
  exact taken.handOver k _

theorem dealWith (h : RowSevenEnds v s) (slot : Fin 16) (k : OrderKind) (waiting : Bool) :
    RowSevenEnds v (s.dealWith slot k waiting).1 := by
  unfold State.dealWith
  (repeat' split)
  · exact h
  · exact h.complete _ _ _
  · exact h
  · exact h.takeAndHand slot k

theorem sweepSlot {acc : State × List Owner} (h : RowSevenEnds v acc.1) (slot : Fin 16) :
    RowSevenEnds v (Machine.sweepSlot acc slot).1 := by
  unfold Machine.sweepSlot
  (repeat' split)
  · exact h
  · exact h.complete _ _ _
  · exact h.dealWith _ _ _

/-- R189: a sweep may deal with several orders, and so change the Mode more than once; it never enters FALLBACK. -/
theorem sweep (h : RowSevenEnds v s) : RowSevenEnds v s.sweep :=
  List.foldlRecOn (motive := fun acc => RowSevenEnds v acc.1) _ Machine.sweepSlot (h.setTimers _ (by rfl))
    fun _ swept slot _ => sweepSlot swept slot

theorem order (h : RowSevenEnds v s) (slot : Fin 16) (k : OrderKind) : RowSevenEnds v (s.order slot k) :=
  h.when fun h => h.dealWith slot k false

/-! ## The Speed Timers -/

theorem recomputeSpeed (h : RowSevenEnds v s) : RowSevenEnds v s.recomputeSpeed :=
  (h.setSpeed _).branch (fun h => h.reportPresent _ _) fun h => h.when fun h => h.reportAbsent _

theorem judgePartner (h : RowSevenEnds v s) (c : Channel) : RowSevenEnds v (s.judgePartner c) := by
  unfold State.judgePartner
  split
  · exact h
  · refine ite ?_ h
    dsimp only
    split
    · exact reportPresent (h.setSpeed _) _ _
    · exact h.setSpeed _

theorem reportReturn (h : RowSevenEnds v s) (c : Channel) (before : ChannelState) :
    RowSevenEnds v (s.reportReturn c before) := h.frame (by simp)

theorem acceptEdge (h : RowSevenEnds v s) (c : Channel) (x : ChannelRecord) : RowSevenEnds v (s.acceptEdge c x) := by
  have restarted : RowSevenEnds v ((s.setChannel c x).restartSilence c) := (h.setSpeed _).setTimers _ (by rfl)
  exact ((restarted.reportReturn c _).judgePartner c).recomputeSpeed

theorem edge (h : RowSevenEnds v s) (c : Channel) : RowSevenEnds v (s.edge c) := by
  unfold State.edge
  dsimp only
  split
  · exact h.acceptEdge c _
  · exact ite (h.setSpeed _) (h.acceptEdge c _)

theorem silence (h : RowSevenEnds v s) (c : Channel) : RowSevenEnds v (s.silence c) := by
  have silenced {x : Timers} (decay : x.decay = s.timers.decay) (y : Speed) := (h.setTimers x decay).setSpeed y
  unfold State.silence
  dsimp only
  split
  · exact ((silenced (by rfl) _).when fun h => h.reportPresent _ _).recomputeSpeed
  · exact (silenced (by rfl) _).recomputeSpeed

theorem expireSilence (h : RowSevenEnds v s) (c : Channel) : RowSevenEnds v (s.expireSilence c) := by
  unfold State.expireSilence
  split
  · exact h.when fun h => h.silence c
  · exact h

/-! ## The register window (R184, R186) -/

theorem softRestart (h : RowSevenEnds v s) (keeps : restarts s .softRestart = false) : RowSevenEnds v s.softRestart :=
  (State.softRestart_of_not_restarts keeps).symm ▸ h

theorem writeRegister (h : RowSevenEnds v s) {offset : BitVec 3} {value : Word}
    (keeps : restarts s (.registerWriteIgnored offset value) = false) : RowSevenEnds v (s.writeRegister offset value) := by
  unfold State.writeRegister
  split
  · next runctl =>
    obtain rfl : offset = 2 := BitVec.eq_of_toNat_eq runctl
    split
    · next one => exact h.softRestart (by simpa [restarts, one] using keeps)
    · exact h
  · exact h.setWindow _
  · exact h.setWindow _
  · exact h

/-! ## The commands -/

/-- In FALLBACK every command but the decay step and the resets keeps it. -/
theorem exec_next {c : Instr} (h : RowSevenEnds v s) (mode : s.drive.mode = .fallback) (power : c ≠ .powerOnReset)
    (keeps : restarts s c = false) (step : c ≠ .fallbackDecayStep) : ∃ t, exec c s = .next t ∧ RowSevenEnds v t := by
  cases c with
  | powerOnReset => exact absurd rfl power
  | boardReset => cases keeps
  | softRestart => exact ⟨_, rfl, h.softRestart keeps⟩
  | attnWrite => exact ⟨_, rfl, h.setWindow _⟩
  | attnenWrite => exact ⟨_, rfl, h.setWindow _⟩
  | registerWriteIgnored => exact ⟨_, rfl, h.writeRegister keeps⟩
  | slatePickUp => exact ⟨_, rfl, h.pickUp mode⟩
  | boardSweep => exact ⟨_, rfl, h.sweep⟩
  | applySettings slot | armDrive slot | disarmDrive slot | clearFallback slot | clearFault slot | resetLockout slot
  | startSelfLoad slot | stopSelfLoad slot | tareLoad slot => exact ⟨_, rfl, h.order slot _⟩
  | applySettingsCompletion => exact ⟨_, rfl, h.completeApply⟩
  | tareLoadCompletion =>
    unfold exec execTareLoadCompletion
    dsimp only
    split
    · exact ⟨_, rfl, h.loadPass⟩
    · exact ⟨_, rfl, h⟩
  | governorFrame => exact ⟨_, rfl, h.governorFrame⟩
  | dcLinkFrame => exact ⟨_, rfl, h.dcLinkFrame⟩
  | thermalFrame => exact ⟨_, rfl, h.thermalFrame⟩
  | steeringFrame => exact ⟨_, rfl, h.steeringFrame⟩
  | strobe => exact ⟨_, rfl, h.strobe⟩
  | strobeCompletion conversions => exact ⟨_, rfl, h.completeStrobe conversions⟩
  | speedEdge channel => exact ⟨_, rfl, h.edge channel⟩
  | silenceEvent channel => exact ⟨_, rfl, h.expireSilence channel⟩
  | longWindowExpiry => exact ⟨_, rfl, h.expireLongWindow mode⟩
  | wMinExpiry => exact ⟨_, rfl, h.expireWMin⟩
  | wMaxExpiry => exact ⟨_, rfl, h.expireWMax mode⟩
  | fallbackDecayStep => exact absurd rfl step
  | exchangeStart => exact ⟨_, rfl, h.startExchange⟩
  | echoCheck => exact ⟨_, rfl, h.checkEcho⟩
  | replyTimerExpiry => exact ⟨_, rfl, h.expireReply⟩
  | characterReceived char => exact ⟨_, rfl, h.takeLine char⟩
  | assemblerDrain => exact ⟨_, rfl, h.drain⟩
  | frameEnd => exact ⟨_, rfl, h.endFrame⟩
  | muteEnd => exact ⟨_, rfl, h.endMute⟩
  | lineStuckDetected => exact ⟨_, rfl, h.lineStuck⟩
  | lineStuckCleared => exact ⟨_, rfl, h.lineCleared⟩
  | haltStart => exact ⟨_, rfl, h.startHalt⟩
  | haltEnd => exact ⟨_, rfl, h.endHalt⟩
  | phaseEnd => exact ⟨_, rfl, h.endPhase⟩
  | stepEnd => exact ⟨_, rfl, h.endStep⟩
  | assemblerHoldEnd => exact ⟨_, rfl, h.endHold⟩

end RowSevenEnds

/-- R168: a decay step is no change of Mode. -/
theorem State.decayStep_mode (s : State) : s.decayStep.drive.mode = s.drive.mode := by simp

/-- R169: a command that is no reset and leads out of FALLBACK stops the decay and keeps row 7's Value. -/
theorem decayStopped_of_leaves_fallback {c : Instr} {s t : State} (ran : exec c s = .next t) (power : c ≠ .powerOnReset)
    (keeps : restarts s c = false) (mode : s.drive.mode = .fallback) (out : t.drive.mode ≠ .fallback) :
    DecayStopped t ∧ (t.row .fallbackSpeed).value = (s.row .fallbackSpeed).value := by
  have start : RowSevenEnds (s.row .fallbackSpeed).value s := ⟨rfl, fun outside => absurd mode outside⟩
  have step : c ≠ .fallbackDecayStep := by
    rintro rfl
    obtain rfl := Host.Outcome.next.inj ran
    exact out (s.decayStep_mode.trans mode)
  obtain ⟨u, ran', value, ended⟩ := start.exec_next mode power keeps step
  obtain rfl := Host.Outcome.next.inj (ran.symm.trans ran')
  exact ⟨ended out, value⟩

/-! ## The resets (R21, R163) -/

namespace DecayStopped

variable {s : State}

theorem startLongWindow (h : DecayStopped s) : DecayStopped s.startLongWindow := h.frame rfl rfl rfl

theorem reportFallbackLatched (h : DecayStopped s) (present : Bool) : DecayStopped (s.report .fallbackLatched present) := by
  obtain ⟨rows, -, timers, supervision⟩ := s.reportPresent_of_not_tripCause (c := .fallbackLatched) rfl 0
  unfold State.report
  split
  · exact h.frame (by rw [State.row, State.row, rows]) (by rw [timers]) (by rw [supervision])
  · exact h.frame (by simp [State.row]) (by simp) (by simp)

/-- R163: the monitor is reset with Decay Running clear; row 7 and the decay timer are as before. -/
theorem resetSupervision (inactive : (s.row .fallbackSpeed).active = false) (timer : s.timers.decay = none) (k : ResetKind) :
    DecayStopped (s.resetSupervision k) := by
  have cleared {x : Supervision} (running : x.decayRunning = false) : DecayStopped (s.setSupervision x) :=
    ⟨inactive, timer, running⟩
  exact reportFallbackLatched (ite (cleared (by rfl)).startLongWindow (cleared (by rfl))) _

/-- R21, R163: a board reset and a soft restart write row 7 inactive and start no decay timer. -/
theorem restart (s : State) (k : ResetKind) : DecayStopped (s.restart k) := by
  have published {u : State} (h : DecayStopped u) : DecayStopped u.resetTrace.resetPublications :=
    h.frame (by simp [State.row]) (by simp) (by simp)
  refine published (resetSupervision ?_ ?_ k)
  · simp [State.row, State.resetRows, State.resetSpeed]
  · cases k <;> simp [State.resetTimers, Timers.initial, State.resetSteer, State.resetScan, State.resetSpeed,
      State.resetLink, State.boardResetLink, State.softResetLink]

theorem powerOn (s : State) : DecayStopped s.powerOn := ⟨rfl, rfl, rfl⟩

end DecayStopped

theorem decayStopped_of_reset {c : Instr} {s t : State} (ran : exec c s = .next t)
    (reset : c = .powerOnReset ∨ restarts s c = true) : DecayStopped t := by
  rcases reset with rfl | reset
  · obtain rfl := Host.Outcome.next.inj ran
    exact DecayStopped.powerOn s
  · obtain ⟨k, ran'⟩ := exec_of_restarts reset
    obtain rfl := Host.Outcome.next.inj (ran.symm.trans ran')
    exact DecayStopped.restart s k

end Sys2Proof.Machine

section
open Sys2Proof Sys2Proof.Machine

/-- Settles O60: on the way out of FALLBACK the decay is stopped, by whatever command, and with Decay Running clear a decay
step changes nothing; every reset stops the decay. -/
theorem leavingFallbackEndsRowSeven : Obligations.LeavingFallbackEndsRowSeven := by
  refine ⟨fun c s t ran power keeps mode out => ?leaves, fun c s t ran reset => ?resets⟩
  case leaves =>
    obtain ⟨stopped, value⟩ := decayStopped_of_leaves_fallback ran power keeps mode out
    exact ⟨stopped.inactive, value, stopped.timer, stopped.running, congrArg Host.Outcome.next stopped.decayStep⟩
  case resets =>
    have stopped := decayStopped_of_reset ran reset
    exact ⟨stopped.inactive, stopped.timer, stopped.running⟩

end
end

section
/-! PROOF. R182: STOP SELF-LOAD. First what R181's abort does, one law for each of its operations: the header, the step in progress,
the START's completion and the entry to DISARMED. They give `testAborted` for every cause, and what the abort leaves alone. The
command then adds two writes to the STOP's own slot, TAKEN before the abort and the completion after it. These keep what the abort
has left, since the START's slot and the STOP's are different ones and the Step Result list lies outside the Order Board. -/

namespace Sys2Proof.Machine

/-! ## Words kept (R184) -/

section
variable {s t u : State} {p q : Nat → Prop}

theorem keepsWords.mono (h : keepsWords s t p) (sub : ∀ a, p a → q a) : keepsWords s t q :=
  fun a outside => h a (mt (sub a) outside)

theorem keepsWords.trans (h : keepsWords s t p) (h' : keepsWords t u p) : keepsWords s u p :=
  fun a outside => (h' a outside).trans (h a outside)

theorem State.writeWords_keepsWords (s : State) (a : Nat) (ws : List Word) :
    keepsWords s (s.writeWords a ws) (fun b => a ≤ b ∧ b < a + ws.length) :=
  fun b outside => s.readWord_writeWords_outside a b ws (by omega)

/-- Word `k` of a run reads as it was written. -/
theorem State.readWord_writeWords_inside (s : State) (a : Nat) (ws : List Word) {k : Nat} (inRun : k < ws.length)
    (inRam : a + k < ramWords) : (s.writeWords a ws).readWord (a + k) = ws.getD k 0 := by
  rw [State.readWord_writeWords, if_pos (by omega), if_pos inRam, Nat.add_sub_cancel_left]

/-- R189, R198: the Order Board lies below the Step Result list. -/
theorem slotWord.not_resultWord {slot : Fin 16} {a : Nat} (h : slotWord slot a) : ¬ resultWord a := by
  have := slot.isLt
  unfold slotWord slotBase at h
  unfold resultWord
  omega

/-- R189: no word belongs to two slots. -/
theorem slotWord.slot_eq {x y : Fin 16} {a : Nat} (hx : slotWord x a) (hy : slotWord y a) : x = y := by
  unfold slotWord slotBase at hx hy
  omega

theorem slotShows.kept {slot : Fin 16} {code d0 d1 d2 d3 : Word} {time : Nat} (h : slotShows t slot code d0 d1 d2 d3 time)
    (keeps : keepsWords t u p) (free : ∀ a, slotWord slot a → ¬ p a) : slotShows u slot code d0 d1 d2 d3 time := by
  have state := keeps _ (free _ (.inl rfl))
  have word (k : Nat) (hk : 9 ≤ k ∧ k < 16) : u.readWord (slotBase slot + k) = t.readWord (slotBase slot + k) :=
    keeps _ (free _ (.inr (by omega)))
  obtain ⟨done, result, detail0, detail1, detail2, detail3, low, high⟩ := h
  exact ⟨state.trans done, (word 9 (by omega)).trans result, (word 10 (by omega)).trans detail0,
    (word 11 (by omega)).trans detail1, (word 12 (by omega)).trans detail2, (word 13 (by omega)).trans detail3,
    (word 14 (by omega)).trans low, (word 15 (by omega)).trans high⟩

end

/-- R193: a number that a word holds is published as it is. -/
theorem wordOf_natCast {n : Nat} (h : n ≤ 65535) : wordOf n = BitVec.ofNat 16 n := by
  rw [wordOf, if_pos (by omega), BitVec.ofInt_natCast]

/-! ## The header of the Step Result list (R178, R198) -/

theorem State.putHeader_keepsWords (s : State) (h : ResultHeader) :
    keepsWords s (s.putHeader h) (fun a => 0x0600 ≤ a ∧ a < 0x0610) :=
  (s.setSelfLoad { s.selfLoad with header := h }).writeWords_keepsWords 0x0600 (headerWords h)

theorem State.readWord_putHeader (s : State) (h : ResultHeader) {k : Nat} (hk : k < 16) :
    (s.putHeader h).readWord (0x0600 + k) = (headerWords h).getD k 0 :=
  State.readWord_writeWords_inside _ _ _ hk (by unfold ramWords; omega)

/-! ## The step in progress closes (R178) -/

section
variable {s : State} (cut : Bool)

theorem State.closeStep_of_closed (closed : s.selfLoad.stepOpen = false) : s.closeStep cut = s := by
  simp [State.closeStep, closed]

theorem State.closeStep_of_room (opened : s.selfLoad.stepOpen = true) (room : s.selfLoad.header.recorded < 32) :
    s.closeStep cut =
      ((s.writeWords (0x0610 + 12 * s.selfLoad.header.recorded) (stepRecordWords s.selfLoad s.now cut)).putHeader
        { s.selfLoad.header with recorded := s.selfLoad.header.recorded + 1 }).setSelfLoad
          { s.selfLoad with
            header := { s.selfLoad.header with recorded := s.selfLoad.header.recorded + 1 }, stepOpen := false } := by
  simp only [State.closeStep, opened, if_pos room, if_true]
  rfl

theorem State.closeStep_of_full (opened : s.selfLoad.stepOpen = true) (full : 32 ≤ s.selfLoad.header.recorded) :
    s.closeStep cut =
      (s.putHeader { s.selfLoad.header with unrecorded := s.selfLoad.header.unrecorded + 1 }).setSelfLoad
        { s.selfLoad with
          header := { s.selfLoad.header with unrecorded := s.selfLoad.header.unrecorded + 1 }, stepOpen := false } := by
  simp only [State.closeStep, opened, if_neg (Nat.not_lt.mpr full), if_true]
  rfl

/-- R178: the generator's record keeps all but its header, and no step is open. -/
theorem State.closeStep_selfLoad (s : State) :
    ∃ h, (s.closeStep cut).selfLoad = { s.selfLoad with header := h, stepOpen := false } := by
  cases opened : s.selfLoad.stepOpen with
  | false => exact ⟨s.selfLoad.header, by rw [State.closeStep_of_closed cut opened, ← opened]⟩
  | true =>
    rcases Nat.lt_or_ge s.selfLoad.header.recorded 32 with room | full
    · exact ⟨_, by rw [State.closeStep_of_room cut opened room]; rfl⟩
    · exact ⟨_, by rw [State.closeStep_of_full cut opened full]; rfl⟩

theorem stepRecordWords_length (g : SelfLoad) (now : Nat) : (stepRecordWords g now cut).length = 12 := rfl

/-- R198: the list has room for 32 records of 12 words after its header. -/
theorem State.closeStep_keepsWords (s : State) : keepsWords s (s.closeStep cut) resultWord := by
  have header (u : State) (h : ResultHeader) : keepsWords u (u.putHeader h) resultWord :=
    (u.putHeader_keepsWords h).mono fun a ⟨low, high⟩ => ⟨low, by omega⟩
  cases opened : s.selfLoad.stepOpen with
  | false => rw [State.closeStep_of_closed cut opened]; exact fun _ _ => rfl
  | true =>
    rcases Nat.lt_or_ge s.selfLoad.header.recorded 32 with room | full
    · rw [State.closeStep_of_room cut opened room]
      have record := (s.writeWords_keepsWords (0x0610 + 12 * s.selfLoad.header.recorded)
        (stepRecordWords s.selfLoad s.now cut)).mono (q := resultWord) fun a ⟨low, high⟩ => by
          rw [stepRecordWords_length] at high
          exact ⟨by omega, by omega⟩
      exact record.trans (header _ _)
    · rw [State.closeStep_of_full cut opened full]
      exact header _ _

/-- R198: the words of the record that a step leaves, the header being written after them. -/
theorem State.readWord_closeStep (opened : s.selfLoad.stepOpen = true) (room : s.selfLoad.header.recorded < 32) {k : Nat}
    (hk : k < 12) :
    (s.closeStep cut).readWord (0x0610 + 12 * s.selfLoad.header.recorded + k) =
      (stepRecordWords s.selfLoad s.now cut).getD k 0 := by
  rw [State.closeStep_of_room cut opened room]
  exact (State.putHeader_keepsWords _ _ _ (by omega)).trans
    (s.readWord_writeWords_inside _ _ hk (by unfold ramWords; omega))

/-- R178: the flags of a record are PARTIAL and NO SAMPLES. -/
theorem stepRecordWords_flags (g : SelfLoad) (now k : Nat) :
    ((stepRecordWords g now cut).getD 8 0).getLsbD k = true ↔ (k = 0 ∧ cut = true) ∨
      (k = 1 ∧ (g.sums.vCount = 0 ∨ g.sums.iACount = 0 ∨ g.sums.iBCount = 0)) := by
  have flags : (stepRecordWords g now cut).getD 8 0 =
      flagWord [cut, g.sums.vCount = 0 || g.sums.iACount = 0 || g.sums.iBCount = 0] := rfl
  rw [flags, flagWord_getLsbD]
  match k with
  | 0 | 1 | k + 2 => simp [or_assoc]

theorem State.closeStep_stepClosed (opened : s.selfLoad.stepOpen = true) : stepClosed s (s.closeStep cut) cut := by
  refine ⟨fun room => ?recorded, fun full => ?unrecorded⟩
  case recorded =>
    have word := fun k => State.readWord_closeStep cut opened room (k := k)
    have header : (s.closeStep cut).selfLoad.header = { s.selfLoad.header with recorded := s.selfLoad.header.recorded + 1 } :=
      congrArg (·.selfLoad.header) (State.closeStep_of_room cut opened room)
    refine ⟨by rw [header], by rw [header], word 0 (by omega), word 1 (by omega), word 2 (by omega), word 3 (by omega),
      word 4 (by omega), word 5 (by omega), word 6 (by omega), word 7 (by omega), fun k => ?_, word 9 (by omega),
      word 10 (by omega), word 11 (by omega)⟩
    rw [word 8 (by omega)]
    exact stepRecordWords_flags cut s.selfLoad s.now k
  case unrecorded =>
    have header : (s.closeStep cut).selfLoad.header =
        { s.selfLoad.header with unrecorded := s.selfLoad.header.unrecorded + 1 } :=
      congrArg (·.selfLoad.header) (State.closeStep_of_full cut opened full)
    exact ⟨by rw [header], by rw [header]⟩

end

/-- R178: a closed step stays so while its counts and the list's records are kept. -/
theorem stepClosed.kept {s t u : State} {cut : Bool} {p : Nat → Prop} (h : stepClosed s t cut)
    (recorded : u.selfLoad.header.recorded = t.selfLoad.header.recorded)
    (unrecorded : u.selfLoad.header.unrecorded = t.selfLoad.header.unrecorded) (keeps : keepsWords t u p)
    (free : ∀ a, 0x0610 ≤ a → resultWord a → ¬ p a) : stepClosed s u cut := by
  obtain ⟨record, count⟩ := h
  refine ⟨fun room => ?_, fun full => ⟨recorded.trans (count full).1, unrecorded.trans (count full).2⟩⟩
  have word (k : Nat) (hk : k < 12) : u.readWord (0x0610 + 12 * s.selfLoad.header.recorded + k) =
      t.readWord (0x0610 + 12 * s.selfLoad.header.recorded + k) :=
    keeps _ (free _ (by omega) ⟨by omega, by omega⟩)
  have word0 := word 0 (by omega)
  rw [Nat.add_zero] at word0
  rw [recorded, unrecorded, word0, word 1 (by omega), word 2 (by omega), word 3 (by omega), word 4 (by omega),
    word 5 (by omega), word 6 (by omega), word 7 (by omega), word 8 (by omega), word 9 (by omega), word 10 (by omega),
    word 11 (by omega)]
  exact record room

/-! ## The START's completion (R181, R190) -/

theorem State.completeStart_of_held {s : State} {o : HeldOrder} (held : s.desk.start = some o) (r : Result)
    (detail : List Word) : s.completeStart r detail = (s.setDesk { s.desk with start := none }).complete o.slot r detail := by
  rw [State.completeStart, held]

theorem State.completeStart_of_none {s : State} (free : s.desk.start = none) (r : Result) (detail : List Word) :
    s.completeStart r detail = s := by
  rw [State.completeStart, free]

theorem State.completeStart_desk (s : State) (r : Result) (detail : List Word) :
    (s.completeStart r detail).desk = { s.desk with start := none } := by
  cases held : s.desk.start with
  | none => rw [State.completeStart_of_none held, ← held]
  | some o => rw [State.completeStart_of_held held]; simp

theorem State.completeStart_keepsWords (s : State) (r : Result) (detail : List Word) :
    keepsWords s (s.completeStart r detail) (fun a => ∃ o, s.desk.start = some o ∧ slotWord o.slot a) := by
  cases held : s.desk.start with
  | none => rw [State.completeStart_of_none held]; exact fun _ _ => rfl
  | some o =>
    rw [State.completeStart_of_held held]
    exact ((s.setDesk { s.desk with start := none }).complete_keepsWords o.slot r detail).mono fun _ here => ⟨o, rfl, here⟩

/-! ## The entry to DISARMED from SELF-LOAD (R13, R37) -/

/-- R4, R17, R169: no row is written on the way from SELF-LOAD to DISARMED. -/
theorem State.enterDisarmed_of_selfLoad {s : State} (mode : s.drive.mode = .selfLoad) :
    s.enterDisarmed = ((s.setDrive { s.drive with mode := .disarmed, since := s.now }).raiseCause .mode).zeroTorque := by
  simp [State.enterDisarmed, State.changeMode, mode]

/-! ## The abort (R181) -/

/-- R178, R181: the state in which an abort writes the header: the duties 0 and, in BODY, the step in progress closed. -/
def State.cutShort (s : State) : State :=
  if s.selfLoad.phase = .body then s.zeroDuties.closeStep true else s.zeroDuties

/-- R181: the header that an abort leaves. -/
def State.abortHeader (s : State) (c : AbortCause) : ResultHeader :=
  { s.cutShort.selfLoad.header with testState := .aborted, abortCause := some c }

/-- R181: the Result Detail of the START. -/
def State.abortDetail (s : State) (c : AbortCause) : List Word :=
  [wordOf c.code, wordOf s.selfLoad.phase.code, if s.selfLoad.phase = .body then wordOf s.selfLoad.stepIndex else 0,
    wordOf s.selfLoad.stepsRun]

/-- R181: the state in which an abort completes the START. -/
def State.abortedTest (s : State) (c : AbortCause) : State := (s.cutShort.putHeader (s.abortHeader c)).toIdle

section
variable {s : State}

theorem State.cutShort_of_body (body : s.selfLoad.phase = .body) : s.cutShort = s.zeroDuties.closeStep true := if_pos body

theorem State.cutShort_of_not_body (other : s.selfLoad.phase ≠ .body) : s.cutShort = s.zeroDuties := if_neg other

theorem State.cutShort_frame (s : State) :
    s.cutShort.us = s.us ∧ s.cutShort.window = s.window ∧ s.cutShort.desk = s.desk ∧ s.cutShort.rows = s.rows ∧
    s.cutShort.drive = s.drive ∧ s.cutShort.link = s.zeroDuties.link ∧ s.cutShort.timers = s.timers := by
  unfold State.cutShort
  split <;> simp

theorem State.cutShort_given (s : State) : s.cutShort.selfLoad.givenA = 0 ∧ s.cutShort.selfLoad.givenB = 0 := by
  by_cases body : s.selfLoad.phase = .body
  · obtain ⟨h, same⟩ := s.zeroDuties.closeStep_selfLoad true
    rw [State.cutShort_of_body body, same]
    exact ⟨rfl, rfl⟩
  · rw [State.cutShort_of_not_body body]
    exact ⟨rfl, rfl⟩

theorem State.cutShort_keepsWords (s : State) : keepsWords s s.cutShort resultWord := by
  unfold State.cutShort
  split
  · exact s.zeroDuties.closeStep_keepsWords true
  · exact fun _ _ => rfl

theorem State.abortTest_of_running (running : s.selfLoad.phase ≠ .idle) (c : AbortCause) :
    s.abortTest c = ((s.abortedTest c).completeStart .aborted (s.abortDetail c)).publishSelfLoad.enterDisarmed := by
  rw [State.abortTest, if_neg running, State.abortWithoutMode, if_neg running]
  rfl

theorem State.abortedTest_frame (s : State) (c : AbortCause) :
    (s.abortedTest c).us = s.us ∧ (s.abortedTest c).window = s.window ∧ (s.abortedTest c).desk = s.desk ∧
    (s.abortedTest c).rows = s.rows ∧ (s.abortedTest c).drive = s.drive ∧ (s.abortedTest c).link = s.zeroDuties.link := by
  simp [State.abortedTest, s.cutShort_frame]

theorem State.abortedTest_timers (s : State) (c : AbortCause) :
    (s.abortedTest c).timers = { s.timers with phase := none, step := none } := by
  simp [State.abortedTest, State.toIdle, s.cutShort_frame]

theorem State.abortedTest_selfLoad (s : State) (c : AbortCause) :
    (s.abortedTest c).selfLoad = { s.cutShort.selfLoad with header := s.abortHeader c, phase := .idle, stepOpen := false } := rfl

theorem State.abortTest_selfLoad (running : s.selfLoad.phase ≠ .idle) (c : AbortCause) :
    (s.abortTest c).selfLoad = (s.abortedTest c).selfLoad := by
  simp [State.abortTest_of_running running]

/-- R181: the words that an abort writes before the START's completion are those of the list. -/
theorem State.abortedTest_keepsWords (s : State) (c : AbortCause) : keepsWords s (s.abortedTest c) resultWord :=
  s.cutShort_keepsWords.trans
    ((s.cutShort.putHeader_keepsWords (s.abortHeader c)).mono fun _ ⟨low, high⟩ => ⟨low, by omega⟩)

/-- R181: the entry to DISARMED writes no word, so the START's completion is the last write. -/
theorem State.readWord_abortTest (running : s.selfLoad.phase ≠ .idle) (c : AbortCause) (a : Nat) :
    (s.abortTest c).readWord a = ((s.abortedTest c).completeStart .aborted (s.abortDetail c)).readWord a := by
  simp [State.readWord, State.abortTest_of_running running]

/-- R181, R190: after the header, an abort writes in the START's slot only. -/
theorem State.abortTest_keepsWords_of_abortedTest (running : s.selfLoad.phase ≠ .idle) (c : AbortCause) :
    keepsWords (s.abortedTest c) (s.abortTest c) (fun a => ∃ o, s.desk.start = some o ∧ slotWord o.slot a) := by
  obtain ⟨-, -, desk, -⟩ := s.abortedTest_frame c
  intro a outside
  rw [State.readWord_abortTest running]
  exact (s.abortedTest c).completeStart_keepsWords _ _ a (desk ▸ outside)

theorem State.readWord_abortTest_of_resultWord (running : s.selfLoad.phase ≠ .idle) (c : AbortCause) {a : Nat}
    (h : resultWord a) : (s.abortTest c).readWord a = (s.abortedTest c).readWord a :=
  State.abortTest_keepsWords_of_abortedTest running c a fun ⟨_, _, here⟩ => here.not_resultWord h

/-- R198: word `k` of the header after an abort. -/
theorem State.readWord_abortTest_header (running : s.selfLoad.phase ≠ .idle) (c : AbortCause) {k : Nat} (hk : k < 16) :
    (s.abortTest c).readWord (0x0600 + k) = (headerWords (s.abortHeader c)).getD k 0 := by
  rw [State.readWord_abortTest_of_resultWord running c ⟨by omega, by omega⟩]
  exact s.cutShort.readWord_putHeader (s.abortHeader c) hk

/-- R181: in BODY the step in progress closes as PARTIAL, and what the abort does after that leaves its record alone. -/
theorem State.abortTest_stepClosed (body : s.selfLoad.phase = .body) (opened : s.selfLoad.stepOpen = true) (c : AbortCause) :
    stepClosed s (s.abortTest c) true := by
  have running : s.selfLoad.phase ≠ .idle := by simp [body]
  have closed : stepClosed s s.cutShort true := by
    rw [State.cutShort_of_body body]
    exact State.closeStep_stepClosed (s := s.zeroDuties) true opened
  have header : (s.abortTest c).selfLoad.header = s.abortHeader c := by
    rw [State.abortTest_selfLoad running, State.abortedTest_selfLoad]
  refine closed.kept (p := fun a => ¬ (0x0610 ≤ a ∧ resultWord a)) (by rw [header]; rfl) (by rw [header]; rfl) ?_
    (fun a low list notListed => notListed ⟨low, list⟩)
  intro a listed
  obtain ⟨low, list⟩ := Classical.not_not.mp listed
  rw [State.readWord_abortTest_of_resultWord running c list]
  exact s.cutShort.putHeader_keepsWords (s.abortHeader c) a (by omega)

/-- R181: outside BODY no record is written, and none is counted. -/
theorem State.abortTest_writes_no_record (running : s.selfLoad.phase ≠ .idle) (other : s.selfLoad.phase ≠ .body)
    (c : AbortCause) :
    (s.abortTest c).selfLoad.header.recorded = s.selfLoad.header.recorded ∧
      ∀ a, 0x0610 ≤ a → resultWord a → (s.abortTest c).readWord a = s.readWord a := by
  have cut := State.cutShort_of_not_body other
  refine ⟨?_, fun a low list => ?_⟩
  · rw [State.abortTest_selfLoad running, State.abortedTest_selfLoad, State.abortHeader, cut]
    rfl
  · rw [State.readWord_abortTest_of_resultWord running c list]
    refine (s.cutShort.putHeader_keepsWords (s.abortHeader c) a (by omega)).trans ?_
    rw [cut]
    rfl

theorem State.abortTest_slotShows (running : s.selfLoad.phase ≠ .idle) (c : AbortCause) {o : HeldOrder}
    (held : s.desk.start = some o) :
    slotShows (s.abortTest c) o.slot 8 (BitVec.ofNat 16 c.code) (BitVec.ofNat 16 s.selfLoad.phase.code)
      (if s.selfLoad.phase = .body then wordOf s.selfLoad.stepIndex else 0) (wordOf s.selfLoad.stepsRun) s.now := by
  obtain ⟨us, -, desk, -⟩ := s.abortedTest_frame c
  have cause : wordOf c.code = BitVec.ofNat 16 c.code := wordOf_natCast (by cases c <;> decide)
  have phase : wordOf s.selfLoad.phase.code = BitVec.ofNat 16 s.selfLoad.phase.code :=
    wordOf_natCast (by cases s.selfLoad.phase <;> decide)
  have now : (s.abortedTest c).now = s.now := by rw [State.now, us, State.now]
  have shows := ((s.abortedTest c).setDesk { (s.abortedTest c).desk with start := none }).complete_slotShows o.slot .aborted
    (s.abortDetail c)
  rw [← State.completeStart_of_held (desk.symm ▸ held)] at shows
  rw [← cause, ← phase, ← now]
  exact shows.kept (p := fun _ => False) (fun a _ => State.readWord_abortTest running c a) (fun _ _ => not_false)

theorem State.abortTest_keepsWords (running : s.selfLoad.phase ≠ .idle) (c : AbortCause) {o : HeldOrder}
    (held : s.desk.start = some o) :
    keepsWords s (s.abortTest c) (fun a => slotWord o.slot a ∨ resultWord a) := by
  refine ((s.abortedTest_keepsWords c).mono fun a => .inr).trans
    ((State.abortTest_keepsWords_of_abortedTest running c).mono ?_)
  rintro a ⟨o', held', here⟩
  obtain rfl := Option.some.inj (held.symm.trans held')
  exact .inl here

variable (mode : s.drive.mode = .selfLoad) (running : s.selfLoad.phase ≠ .idle) (c : AbortCause)
include mode running

/-- R13, R181: the abort ends in the entry to DISARMED from SELF-LOAD. -/
theorem State.abortTest_of_selfLoad :
    s.abortTest c = ((((s.abortedTest c).completeStart .aborted (s.abortDetail c)).publishSelfLoad.setDrive
      { s.drive with mode := .disarmed, since := s.now }).raiseCause .mode).zeroTorque := by
  obtain ⟨us, -, -, -, drive, -⟩ := s.abortedTest_frame c
  rw [State.abortTest_of_running running, State.enterDisarmed_of_selfLoad]
  · simp [State.now, us, drive]
  · simp [drive, mode]

/-- R13, R181: what an abort leaves outside the generator and the RAM, the two outgoing torque records apart. -/
theorem State.abortTest_outcome :
    (s.abortTest c).drive.mode = .disarmed ∧ (s.abortTest c).drive.since = s.now ∧
    (s.abortTest c).desk = { s.desk with start := none } ∧
    (s.abortTest c).timers = { s.timers with phase := none, step := none } ∧
    (s.abortTest c).link.outgoing.chopper = { s.link.outgoing.chopper with dutyA := 0, dutyB := 0 } ∧
    (s.abortTest c).rows = s.rows := by
  obtain ⟨-, -, desk, rows, -, link⟩ := s.abortedTest_frame c
  have duties : s.zeroDuties.link.outgoing.chopper = { s.link.outgoing.chopper with dutyA := 0, dutyB := 0 } := rfl
  rw [State.abortTest_of_selfLoad mode running c]
  simp [State.zeroTorque, State.writeTorqueRecords, State.completeStart_desk, desk, rows, link, duties, State.abortedTest_timers]

/-- R187: ORDER DONE for the START, then MODE. -/
theorem State.abortTest_window {o : HeldOrder} (held : s.desk.start = some o) :
    (s.abortTest c).window = (s.window.raise .orderDone).raise .mode := by
  obtain ⟨-, window, desk, -⟩ := s.abortedTest_frame c
  rw [State.abortTest_of_selfLoad mode running c, State.completeStart_of_held (desk.symm ▸ held)]
  simp [State.complete, State.raiseCause, window]

theorem State.abortTest_testAborted : testAborted s (s.abortTest c) c := by
  obtain ⟨disarmed, since, desk, timers, -⟩ := State.abortTest_outcome mode running c
  have generator := State.abortTest_selfLoad running c
  rw [State.abortedTest_selfLoad] at generator
  obtain ⟨givenA, givenB⟩ := s.cutShort_given
  have header := fun k => State.readWord_abortTest_header running c (k := k)
  exact ⟨disarmed, since, by rw [generator], by rw [desk], by rw [timers], by rw [timers], by rw [generator, givenA],
    by rw [generator, givenB], by rw [generator]; rfl, by rw [generator]; rfl, header 0 (by omega), header 1 (by omega),
    fun body opened => State.abortTest_stepClosed body opened c, fun _ held => State.abortTest_slotShows running c held⟩

end

/-! ## The command (R182, R189) -/

/-- R182: an order completed in another slot leaves an aborted test as it is. -/
theorem testAborted.complete {s t : State} {c : AbortCause} (h : testAborted s t c) (slot : Fin 16) (r : Result)
    (detail : List Word) (another : ∀ o, s.desk.start = some o → o.slot ≠ slot) :
    testAborted s (t.complete slot r detail) c := by
  have keeps := t.complete_keepsWords slot r detail
  have list {a : Nat} (h : resultWord a) := keeps a fun here => here.not_resultWord h
  obtain ⟨disarmed, since, idle, start, phase, step, givenA, givenB, state, cause, word0, word1, closed, shows⟩ := h
  refine ⟨disarmed, since, idle, start, phase, step, givenA, givenB, state, cause, (list ⟨by omega, by omega⟩).trans word0,
    (list ⟨by omega, by omega⟩).trans word1, fun body opened => ?_, fun o held => ?_⟩
  · exact (closed body opened).kept rfl rfl keeps fun _ _ listed here => here.not_resultWord listed
  · exact (shows o held).kept keeps fun _ here there => another o held (here.slot_eq there)

/-- R189: STOP SELF-LOAD waits for no order. Outside FALLBACK it reaches the Drive Governor TAKEN. -/
theorem exec_stopSelfLoad_handed {s : State} {slot : Fin 16} (h : posted s slot 8) (mode : s.drive.mode ≠ .fallback) :
    exec (.stopSelfLoad slot) s = .next ((s.takeOrder slot).1.handStop (s.takeOrder slot).2) := by
  refine congrArg Host.Outcome.next ((State.order_of_posted h rfl).trans ?_)
  exact s.dealWith_of_free slot .stopSelfLoad rfl (fun fallback => absurd fallback mode) nofun

/-- R14: in FALLBACK the Order Desk refuses STOP SELF-LOAD. -/
theorem exec_stopSelfLoad_of_fallback {s : State} {slot : Fin 16} (h : posted s slot 8) (mode : s.drive.mode = .fallback) :
    exec (.stopSelfLoad slot) s = .next (s.complete slot .wrongMode) :=
  congrArg Host.Outcome.next ((State.order_of_posted h rfl).trans (s.dealWith_of_fallback slot .stopSelfLoad rfl mode rfl))

/-- R14, R182: outside SELF-LOAD it completes WRONG MODE, by the Order Desk in FALLBACK and by the Drive Governor elsewhere. -/
theorem exec_stopSelfLoad_of_wrongMode {s : State} {slot : Fin 16} (h : posted s slot 8) (mode : s.drive.mode ≠ .selfLoad) :
    ∃ t, exec (.stopSelfLoad slot) s = .next t ∧ onlyCompletes s t slot 2 0 0 0 0 := by
  by_cases fallback : s.drive.mode = .fallback
  · exact ⟨_, exec_stopSelfLoad_of_fallback h fallback, State.complete_onlyCompletes slot .wrongMode [] rfl (fun _ _ => rfl)⟩
  · exact ⟨_, (exec_stopSelfLoad_handed h fallback).trans (congrArg Host.Outcome.next (if_neg mode)),
      s.takeOrder_complete_onlyCompletes slot .wrongMode []⟩

/-- R182: the order TAKEN, the test aborted with cause STOPPED, and the order completed. -/
def State.stopTest (s : State) (slot : Fin 16) : State :=
  ((s.takeOrder slot).1.abortTest .stopped).complete slot .done

theorem exec_stopSelfLoad_of_selfLoad {s : State} {slot : Fin 16} (h : posted s slot 8) (mode : s.drive.mode = .selfLoad) :
    exec (.stopSelfLoad slot) s = .next (s.stopTest slot) :=
  (exec_stopSelfLoad_handed h (by simp [mode])).trans (congrArg Host.Outcome.next (if_pos mode))

/-! ## The test stopped (R182)

The abort runs on the state `(s.takeOrder slot).1`, which differs from `s` in the RAM only, so what the laws of the abort say of its
generator, desk and Mode they say of those of `s`. -/

section
variable {s : State}

theorem State.stopTest_frame (s : State) (slot : Fin 16) :
    (s.stopTest slot).faults = s.faults ∧ (s.stopTest slot).grid = s.grid ∧ (s.stopTest slot).settings = s.settings := by
  simp [State.stopTest]

theorem State.stopTest_slotShows (s : State) (slot : Fin 16) : slotShows (s.stopTest slot) slot 0 0 0 0 0 s.now := by
  have now : ((s.takeOrder slot).1.abortTest .stopped).now = s.now := by simp [State.now]
  exact now ▸ ((s.takeOrder slot).1.abortTest .stopped).complete_slotShows slot .done []

theorem State.stopTest_writes_no_record (running : s.selfLoad.phase ≠ .idle) (other : s.selfLoad.phase ≠ .body)
    (slot : Fin 16) :
    (s.stopTest slot).selfLoad.header.recorded = s.selfLoad.header.recorded ∧
      ∀ a, 0x0610 ≤ a → resultWord a → (s.stopTest slot).readWord a = s.readWord a := by
  obtain ⟨recorded, records⟩ := State.abortTest_writes_no_record (s := (s.takeOrder slot).1) running other .stopped
  refine ⟨by simpa [State.stopTest] using recorded, fun a low list => ?_⟩
  have outside : ¬ slotWord slot a := fun here => here.not_resultWord list
  calc (s.stopTest slot).readWord a
    _ = ((s.takeOrder slot).1.abortTest .stopped).readWord a := State.complete_keepsWords _ slot .done [] a outside
    _ = (s.takeOrder slot).1.readWord a := records a low list
    _ = s.readWord a := s.takeOrder_keepsWords slot a fun here => outside (.inl here)

theorem State.stopTest_keepsWords (running : s.selfLoad.phase ≠ .idle) (slot : Fin 16) {o : HeldOrder}
    (held : s.desk.start = some o) :
    keepsWords s (s.stopTest slot) (fun a => slotWord slot a ∨ slotWord o.slot a ∨ resultWord a) := by
  have taken := (s.takeOrder_keepsWords slot).mono (q := slotWord slot) fun _ => .inl
  have aborted := State.abortTest_keepsWords (s := (s.takeOrder slot).1) running .stopped held
  have completed := ((s.takeOrder slot).1.abortTest .stopped).complete_keepsWords slot .done []
  exact ((taken.mono fun _ => .inl).trans (aborted.mono fun _ => .inr)).trans (completed.mono fun _ => .inl)

variable (mode : s.drive.mode = .selfLoad) (running : s.selfLoad.phase ≠ .idle) (slot : Fin 16)
include mode running

theorem State.stopTest_testAborted (another : ∀ o, s.desk.start = some o → o.slot ≠ slot) :
    testAborted s (s.stopTest slot) .stopped :=
  (State.abortTest_testAborted (s := (s.takeOrder slot).1) mode running .stopped).complete slot .done [] another

theorem State.stopTest_outcome :
    (s.stopTest slot).desk = { s.desk with start := none } ∧
    (s.stopTest slot).timers = { s.timers with phase := none, step := none } ∧
    (s.stopTest slot).link.outgoing.chopper = { s.link.outgoing.chopper with dutyA := 0, dutyB := 0 } ∧
    (s.stopTest slot).rows = s.rows := by
  obtain ⟨-, -, outcome⟩ := State.abortTest_outcome (s := (s.takeOrder slot).1) mode running .stopped
  simpa [State.stopTest] using outcome

/-- R187: after the abort's causes, ORDER DONE for the STOP. -/
theorem State.stopTest_window {o : HeldOrder} (held : s.desk.start = some o) :
    (s.stopTest slot).window = ((s.window.raise .orderDone).raise .mode).raise .orderDone :=
  congrArg (·.raise .orderDone) (State.abortTest_window (s := (s.takeOrder slot).1) mode running .stopped held)

end

end Sys2Proof.Machine

section
open Sys2Proof Sys2Proof.Machine

/-- Settles O19: outside SELF-LOAD the order is refused. In SELF-LOAD its completion in the STOP's slot comes after the abort, which
runs on the state in which that slot has been TAKEN. -/
theorem stopSelfLoad : Obligations.StopSelfLoad := by
  intro slot s h
  refine ⟨exec_stopSelfLoad_of_wrongMode h, fun mode running o held => ?_⟩
  have another : ∀ o, s.desk.start = some o → o.slot ≠ slot := by
    rintro o held rfl
    obtain ⟨-, -, notTaken⟩ := h
    exact notTaken (.inr (.inl (congrArg (Option.map _) held)))
  have aborted := State.stopTest_testAborted mode running slot another
  have ⟨_, _, _, _, _, _, _, _, _, _, testState, cause, _, startShows⟩ := aborted
  obtain ⟨desk, timers, chopper, rows⟩ := State.stopTest_outcome mode running slot
  obtain ⟨faults, grid, settings⟩ := s.stopTest_frame slot
  exact ⟨s.stopTest slot, exec_stopSelfLoad_of_selfLoad h mode, aborted,
    fun other => State.stopTest_writes_no_record running other slot, desk, timers, chopper, testState, cause,
    s.stopTest_slotShows slot, startShows o held, State.stopTest_window mode running slot held, faults, rows, grid, settings,
    State.stopTest_keepsWords running slot held⟩

end
end
